-- ==== Sys2Proof/Word.lean ====
section
/-! DEFINITION. The word types of the block. Every quantity is an unsigned integer (00_scope.md R9). -/

namespace Sys2Proof

/-- A host bus word, a 32-bit register, a command word (20_memory.md R62, 30_encoding.md R80). -/
abbrev Word := BitVec 32

/-- A 16-bit register, a running CRC, a wire address (10_state.md R30, R33, R40). -/
abbrev Half := BitVec 16

/-- A frame byte (00_scope.md R10). -/
abbrev Byte := BitVec 8

end Sys2Proof
end

