-- ==== Sys2Proof/Machine/Arrays.lean ====
section
/-! DEFINITION. Element access to the array registers (20_memory.md R74) and the byte-order helpers of 00_scope.md
R10. -/

namespace Sys2Proof.Machine

/-- `NAME[i]` (00_scope.md R11). `d` is answered outside the array, where no operation reads (R74; log 11). -/
def elem {α : Type} {n : Nat} (d : α) (v : Vector α n) (i : Nat) : α := v.toList.getD i d

/-- `NAME[i] <- x` (R11); nothing outside the array. -/
def put {α : Type} {n : Nat} (v : Vector α n) (i : Nat) (x : α) : Vector α n := v.setIfInBounds i x

/-- `NAME[i], NAME[i+1], ... <- xs`. -/
def putAll {α : Type} {n : Nat} (v : Vector α n) (i : Nat) : List α → Vector α n
  | [] => v
  | x :: xs => putAll (put v i x) (i + 1) xs

/-- `NAME[0..k-1]` as a sequence (R10). -/
def firstN {α : Type} {n : Nat} (v : Vector α n) (k : Nat) : List α := v.toList.take k

/-- An array given element by element. -/
def tabulate {α : Type} (n : Nat) (f : Nat → α) : Vector α n := ⟨((List.range n).map f).toArray, by simp⟩

/-- `v[15:8]`. -/
def hi8 (v : Half) : Byte := v.extractLsb' 8 8

/-- `v[7:0]`. -/
def lo8 (v : Half) : Byte := v.extractLsb' 0 8

/-- `be16(v)` (R10). -/
def be16 (v : Half) : List Byte := [hi8 v, lo8 v]

/-- `le16(v)` (R10). -/
def le16 (v : Half) : List Byte := [lo8 v, hi8 v]

/-- `frombe16(h, l)` (R10). -/
def frombe16 (h l : Byte) : Half := h ++ l

end Sys2Proof.Machine
end

