-- ==== Sys2Proof/Config.lean ====
section
/-! DEFINITION. Sizes and constants of the block (00_scope.md R7, R8) and the free values: what the spec leaves
unspecified at reset (10_state.md R51) or open in the ROM (43_scaling.md R200). A free value is an opaque constant,
so nothing can be proved about which value it is. -/

namespace Sys2Proof.Config

/-- Bytes in `TXBUF` and in `RXBUF` (R8, D5). -/
abbrev bufSize : Nat := 256
/-- Entries of `VAL` (R8, D5). -/
abbrev valSize : Nat := 123
/-- Entries of `REG` (R8, D5). -/
abbrev regSize : Nat := 126
/-- Entries of `FD` and of `OUT` (R8, D5). -/
abbrev fdSize : Nat := 64
/-- Words of the register space (20_memory.md R61). -/
abbrev spaceWords : Nat := 0x500

/-- Contents of `VAL[i]` after reset: unspecified (R51). DESIGN CHOICE, log 4: a free value. -/
opaque resetVal : Nat → BitVec 32
/-- Contents of `TXBUF[i]` after reset: unspecified (R51). DESIGN CHOICE, log 4: a free value. -/
opaque resetTx : Nat → BitVec 8
/-- Contents of `RXBUF[i]` after reset: unspecified (R51). DESIGN CHOICE, log 4: a free value. -/
opaque resetRx : Nat → BitVec 8
/-- Contents of `REG[i]` after reset: unspecified (R51). DESIGN CHOICE, log 4: a free value. -/
opaque resetReg : Nat → BitVec 16
/-- Contents of `FD[i]` after reset: unspecified (R51). DESIGN CHOICE, log 4: a free value. -/
opaque resetFd : Nat → BitVec 32
/-- `OUT[i].M` after reset: unspecified (R51). DESIGN CHOICE, log 4: a free value. -/
opaque resetOutM : Nat → BitVec 64
/-- `OUT[i].E` after reset: unspecified (R51). DESIGN CHOICE, log 4: a free value. -/
opaque resetOutE : Nat → BitVec 5
/-- `OUT[i].FL` after reset: unspecified (R51). DESIGN CHOICE, log 4: a free value. -/
opaque resetOutFl : Nat → BitVec 4

/-- Mantissa of a ROM multiplier the spec leaves open (R200, D7): set number (0 to 6 the rows of `MTAB`, 15 `M15`,
16 `MDEF`), then class number. DESIGN CHOICE, log 3: a free value. -/
opaque romM : Nat → Nat → BitVec 32
/-- Exponent of a ROM multiplier the spec leaves open (R200, D7). DESIGN CHOICE, log 3: a free value. -/
opaque romE : Nat → Nat → BitVec 4

end Sys2Proof.Config
end

