-- ==== Sys2Proof/Syntax.lean ====
section
/-! DEFINITION. The instructions: one constructor per row of spec/opcode_table.json (30_encoding.md R89, R104).
Twenty command words, then nine Modbus frames. -/

namespace Sys2Proof

/-- `SEL` of formats S and L (R82): 0 `TXBUF` with `TXLEN`, 1 `RXBUF` with `RXLEN`. -/
inductive BufSel where
  | tx
  | rx
  deriving DecidableEq, Repr

/-- `CLASS` of format F (R82, 43_scaling.md R182); the reserved numbers 6 and 7 have no name here. -/
inductive MClass where
  | power
  | current
  | voltage
  | pf
  | frequency
  | raw
  deriving DecidableEq, Repr

inductive Instr where
  | nop
  | srst
  | crcinit
  | crcbyte (imm8 : BitVec 8)
  | crcbuf (sel : BufSel) (len : BitVec 9)
  | crcapp
  | crcvfy (sel : BufSel)
  | addrconv
  | build
  | explen
  | parse
  | scalset (imm16 : BitVec 16)
  | scalld (idx : BitVec 7)
  | scalclr
  | resolve
  | scale16 (off : BitVec 7) (cls : MClass)
  | scale32 (off : BitVec 7) (cls : MClass)
  | p3fix
  | decode
  | filter
  /-- Request, function 3 (R92). Each frame keeps its CRC field as an operand: a frame a host or a device sends may
  carry a wrong one (70_reset_and_hazards.md R295; log 9). -/
  | reqReadHolding (dev : Byte) (waddr count crc : Half)
  /-- Request, function 4 (R92). -/
  | reqReadInput (dev : Byte) (waddr count crc : Half)
  /-- Request, function 6 (R93). -/
  | reqWriteSingle (dev : Byte) (waddr value crc : Half)
  /-- Request, function 16 (R94): count is the number of values, byte-count twice that. -/
  | reqWriteMultiple (dev : Byte) (waddr : Half) (values : List Half) (crc : Half)
  /-- Reply, function 3 (R95): byte-count is twice the number of registers. -/
  | rspReadHolding (dev : Byte) (regs : List Half) (crc : Half)
  /-- Reply, function 4 (R95). -/
  | rspReadInput (dev : Byte) (regs : List Half) (crc : Half)
  /-- Reply, function 6 (R96). -/
  | rspWriteSingle (dev : Byte) (waddr value crc : Half)
  /-- Reply, function 16 (R97). -/
  | rspWriteMultiple (dev : Byte) (waddr count crc : Half)
  /-- Error reply (R98): function-code byte with bit 7 set, then the exception code. -/
  | rspError (dev fn code : Byte) (crc : Half)
  deriving DecidableEq, Repr

/-- What an instruction is encoded as: a command word written to `CMD` (R80), or the bytes of a request frame or of a
reply frame (R91). -/
inductive Image where
  | command (w : Word)
  | frame (buf : BufSel) (bytes : List Byte)
  deriving DecidableEq, Repr

end Sys2Proof
end

