-- ==== Sys2Proof/WellFormed.lean ====
section
/-! DEFINITION. Which instruction terms have an encoding (30_encoding.md R81, R82, R99 and R92 to R98). -/

namespace Sys2Proof

/-- `hasFilter` is the parameter `HAS_FILTER` (00_scope.md R8). The checks: `LEN` at most 256 (R82); `FILTER` only
where the sub-unit exists (R99); a frame fits the 256 bytes of its buffer (10_state.md R34, R36), which bounds its
list; an error reply's function byte has bit 7 set (R98). -/
def Instr.wf (hasFilter : Bool) : Instr → Bool
  | .nop => true
  | .srst => true
  | .crcinit => true
  | .crcbyte _ => true
  | .crcbuf _ len => decide (len.toNat ≤ 256)
  | .crcapp => true
  | .crcvfy _ => true
  | .addrconv => true
  | .build => true
  | .explen => true
  | .parse => true
  | .scalset _ => true
  | .scalld _ => true
  | .scalclr => true
  | .resolve => true
  | .scale16 _ _ => true
  | .scale32 _ _ => true
  | .p3fix => true
  | .decode => true
  | .filter => hasFilter
  | .reqReadHolding _ _ _ _ => true
  | .reqReadInput _ _ _ _ => true
  | .reqWriteSingle _ _ _ _ => true
  | .reqWriteMultiple _ _ values _ => decide (9 + 2 * values.length ≤ 256)
  | .rspReadHolding _ regs _ => decide (5 + 2 * regs.length ≤ 256)
  | .rspReadInput _ regs _ => decide (5 + 2 * regs.length ≤ 256)
  | .rspWriteSingle _ _ _ _ => true
  | .rspWriteMultiple _ _ _ _ => true
  | .rspError _ fn _ _ => fn.getLsbD 7

end Sys2Proof
end

