-- ==== Sys2Proof/Decode.lean ====
section
/-! DEFINITION. Decoding of command words (30_encoding.md R80 to R82, R89, R99) and of Modbus RTU frames (R91 to R98,
R104), total, every rejection under a name; then the encoder, from the same tables. -/

namespace Sys2Proof

open Sys2Proof.Machine

/-- Why no instruction is read. A rejected command word is an illegal one (R81, R99); a rejected byte sequence is no
frame of the layouts R92 to R98, and is still loaded as raw bytes (R139, R295). -/
inductive Reject where
  /-- R81 step 1. -/
  | unassignedOpcode
  /-- R81 step 2. -/
  | reservedBit
  /-- R81 step 3: `LEN` above 256, `CLASS` 6 or 7. -/
  | reservedField
  /-- R99: opcode 0x50 in a block built without the filter. -/
  | filterAbsent
  /-- No frame layout has this function-code byte. -/
  | frameFunction
  /-- The bytes do not have the layout of their function-code byte. -/
  | frameShape
  deriving DecidableEq, Repr

/-- `SEL` (R82). -/
def selOf (w : Word) : BufSel := if w.getLsbD 16 then .rx else .tx

/-- `CLASS` (R82). -/
def classOf (n : Nat) : Option MClass :=
  match n with
  | 0 => some .power
  | 1 => some .current
  | 2 => some .voltage
  | 3 => some .pf
  | 4 => some .frequency
  | 5 => some .raw
  | _ => none

/-- R81 step 2 for a format whose reserved bits of `ARG` are those of `reserved`. -/
def checked (reserved w : Word) (i : Except Reject Instr) : Except Reject Instr :=
  if w &&& reserved = 0 then i else .error .reservedBit

/-- Format F (R82). -/
def formatF (w : Word) (mk : BitVec 7 → MClass → Instr) : Except Reject Instr :=
  match classOf (w.extractLsb' 8 3).toNat with
  | some c => .ok (mk (w.extractLsb' 0 7) c)
  | none => .error .reservedField

/-- Format L (R82). -/
def formatL (w : Word) : Except Reject Instr :=
  if (w.extractLsb' 0 9).toNat ≤ 256 then .ok (.crcbuf (selOf w) (w.extractLsb' 0 9)) else .error .reservedField

/-- R81 with the opcode map of R89. -/
def decodeCommand (hasFilter : Bool) (w : Word) : Except Reject Instr :=
  match (w.extractLsb' 24 8).toNat with
  | 0x00 => checked 0x00FFFFFF w (.ok .nop)
  | 0x01 => checked 0x00FFFFFF w (.ok .srst)
  | 0x10 => checked 0x00FFFFFF w (.ok .crcinit)
  | 0x11 => checked 0x00FFFF00 w (.ok (.crcbyte (w.extractLsb' 0 8)))
  | 0x12 => checked 0x00FEFE00 w (formatL w)
  | 0x13 => checked 0x00FFFFFF w (.ok .crcapp)
  | 0x14 => checked 0x00FEFFFF w (.ok (.crcvfy (selOf w)))
  | 0x20 => checked 0x00FFFFFF w (.ok .addrconv)
  | 0x21 => checked 0x00FFFFFF w (.ok .build)
  | 0x22 => checked 0x00FFFFFF w (.ok .explen)
  | 0x30 => checked 0x00FFFFFF w (.ok .parse)
  | 0x40 => checked 0x00FF0000 w (.ok (.scalset (w.extractLsb' 0 16)))
  | 0x41 => checked 0x00FFFF80 w (.ok (.scalld (w.extractLsb' 0 7)))
  | 0x42 => checked 0x00FFFFFF w (.ok .scalclr)
  | 0x43 => checked 0x00FFFFFF w (.ok .resolve)
  | 0x44 => checked 0x00FFF880 w (formatF w .scale16)
  | 0x45 => checked 0x00FFF880 w (formatF w .scale32)
  | 0x46 => checked 0x00FFFFFF w (.ok .p3fix)
  | 0x47 => checked 0x00FFFFFF w (.ok .decode)
  | 0x50 => if hasFilter then checked 0x00FFFFFF w (.ok .filter) else .error .filterAbsent
  | _ => .error .unassignedOpcode

/-- The tail of a frame: big-endian 16-bit quantities, then the CRC, low byte first (R64, R91). -/
def splitTail : List Byte → Option (List Half × Half)
  | [l, h] => some ([], frombe16 h l)
  | a :: b :: rest =>
    match splitTail rest with
    | some (vs, c) => some (frombe16 a b :: vs, c)
    | none => none
  | _ => none

/-- A frame of two 16-bit fields (R92, R93, R96, R97). -/
def twoFields (tail : List Byte) (mk : Half → Half → Half → Instr) : Except Reject Instr :=
  match splitTail tail with
  | some ([a, b], c) => .ok (mk a b c)
  | _ => .error .frameShape

/-- R94 after byte 1. -/
def decodeWriteMultiple (dev : Byte) : List Byte → Except Reject Instr
  | wh :: wl :: ch :: cl :: bc :: tail =>
    match splitTail tail with
    | some (vs, c) =>
      if 9 + 2 * vs.length ≤ 256 ∧ (frombe16 ch cl).toNat = vs.length ∧ bc.toNat = 2 * vs.length then
        .ok (.reqWriteMultiple dev (frombe16 wh wl) vs c)
      else .error .frameShape
    | none => .error .frameShape
  | _ => .error .frameShape

/-- R95 after byte 1. -/
def decodeReadReply (mk : List Half → Half → Instr) : List Byte → Except Reject Instr
  | bc :: tail =>
    match splitTail tail with
    | some (vs, c) =>
      if 5 + 2 * vs.length ≤ 256 ∧ bc.toNat = 2 * vs.length then .ok (mk vs c) else .error .frameShape
    | none => .error .frameShape
  | [] => .error .frameShape

/-- A request frame (R92 to R94); a request row is selected by byte 1 (R104). -/
def decodeRequest : List Byte → Except Reject Instr
  | dev :: fn :: rest =>
    match fn.toNat with
    | 3 => twoFields rest (.reqReadHolding dev)
    | 4 => twoFields rest (.reqReadInput dev)
    | 6 => twoFields rest (.reqWriteSingle dev)
    | 16 => decodeWriteMultiple dev rest
    | _ => .error .frameFunction
  | _ => .error .frameShape

/-- R98. -/
def decodeErrorReply (dev fn : Byte) : List Byte → Except Reject Instr
  | [code, l, h] => .ok (.rspError dev fn code (frombe16 h l))
  | _ => .error .frameShape

/-- A reply frame (R95 to R98); bit 7 of byte 1 marks the error reply (R104). -/
def decodeReply : List Byte → Except Reject Instr
  | dev :: fn :: rest =>
    if fn.getLsbD 7 then decodeErrorReply dev fn rest
    else
      match fn.toNat with
      | 3 => decodeReadReply (.rspReadHolding dev) rest
      | 4 => decodeReadReply (.rspReadInput dev) rest
      | 6 => twoFields rest (.rspWriteSingle dev)
      | 16 => twoFields rest (.rspWriteMultiple dev)
      | _ => .error .frameFunction
  | _ => .error .frameShape

/-- The frame of a buffer: requests are what `TXBUF` holds, replies what `RXBUF` holds (10_state.md R34, R36). -/
def decodeFrame : BufSel → List Byte → Except Reject Instr
  | .tx => decodeRequest
  | .rx => decodeReply

def decodeImage (hasFilter : Bool) : Image → Except Reject Instr
  | .command w => decodeCommand hasFilter w
  | .frame b bytes => decodeFrame b bytes

/-! ### The encoder -/

/-- `OPC` and `ARG` (R80). -/
def commandWord (opc : BitVec 8) (arg : BitVec 24) : Word := opc ++ arg

/-- `SEL` as the number R82 gives it. -/
def BufSel.num : BufSel → Nat
  | .tx => 0
  | .rx => 1

/-- `CLASS` as the number R82 gives it. -/
def MClass.num : MClass → Nat
  | .power => 0
  | .current => 1
  | .voltage => 2
  | .pf => 3
  | .frequency => 4
  | .raw => 5

/-- `ARG` of format F: `CLASS` in 10:8, `OFF` in 6:0. -/
def argF (off : BitVec 7) (c : MClass) : BitVec 24 := BitVec.ofNat 24 (c.num * 2 ^ 8 + off.toNat)

/-- Bytes of a frame without list fields. -/
def frame2 (dev fn : Byte) (a b c : Half) : List Byte := dev :: fn :: (be16 a ++ be16 b ++ le16 c)

def encode : Instr → Image
  | .nop => .command (commandWord 0x00 0)
  | .srst => .command (commandWord 0x01 0)
  | .crcinit => .command (commandWord 0x10 0)
  | .crcbyte imm8 => .command (commandWord 0x11 (imm8.setWidth 24))
  | .crcbuf sel len => .command (commandWord 0x12 (BitVec.ofNat 24 (sel.num * 2 ^ 16 + len.toNat)))
  | .crcapp => .command (commandWord 0x13 0)
  | .crcvfy sel => .command (commandWord 0x14 (BitVec.ofNat 24 (sel.num * 2 ^ 16)))
  | .addrconv => .command (commandWord 0x20 0)
  | .build => .command (commandWord 0x21 0)
  | .explen => .command (commandWord 0x22 0)
  | .parse => .command (commandWord 0x30 0)
  | .scalset imm16 => .command (commandWord 0x40 (imm16.setWidth 24))
  | .scalld idx => .command (commandWord 0x41 (idx.setWidth 24))
  | .scalclr => .command (commandWord 0x42 0)
  | .resolve => .command (commandWord 0x43 0)
  | .scale16 off c => .command (commandWord 0x44 (argF off c))
  | .scale32 off c => .command (commandWord 0x45 (argF off c))
  | .p3fix => .command (commandWord 0x46 0)
  | .decode => .command (commandWord 0x47 0)
  | .filter => .command (commandWord 0x50 0)
  | .reqReadHolding dev w n c => .frame .tx (frame2 dev 0x03 w n c)
  | .reqReadInput dev w n c => .frame .tx (frame2 dev 0x04 w n c)
  | .reqWriteSingle dev w v c => .frame .tx (frame2 dev 0x06 w v c)
  | .reqWriteMultiple dev w vs c =>
    .frame .tx (dev :: 0x10 :: (be16 w ++ be16 (BitVec.ofNat 16 vs.length) ++
      BitVec.ofNat 8 (2 * vs.length) :: (vs.flatMap be16 ++ le16 c)))
  | .rspReadHolding dev rs c =>
    .frame .rx (dev :: 0x03 :: BitVec.ofNat 8 (2 * rs.length) :: (rs.flatMap be16 ++ le16 c))
  | .rspReadInput dev rs c =>
    .frame .rx (dev :: 0x04 :: BitVec.ofNat 8 (2 * rs.length) :: (rs.flatMap be16 ++ le16 c))
  | .rspWriteSingle dev w v c => .frame .rx (frame2 dev 0x06 w v c)
  | .rspWriteMultiple dev w n c => .frame .rx (frame2 dev 0x10 w n c)
  | .rspError dev fn code c => .frame .rx (dev :: fn :: code :: le16 c)

/-- The bytes of an image: the four of a command word, or the frame's. -/
def Image.size : Image → Nat
  | .command _ => 4
  | .frame _ bytes => bytes.length

/-! ### The opcode table as rows (30_encoding.md R104) -/

/-- A command row: a word `w` selects it iff `(w and mask) = match` (R104). -/
structure Row where
  mnemonic : String
  pattern : Word
  mask : Word
  deriving DecidableEq, Repr

/-- The twenty command rows of spec/opcode_table.json. -/
def opcodeRows : List Row :=
  [⟨"NOP", 0x00000000, 0xFFFFFFFF⟩,
   ⟨"SRST", 0x01000000, 0xFFFFFFFF⟩,
   ⟨"CRCINIT", 0x10000000, 0xFFFFFFFF⟩,
   ⟨"CRCBYTE", 0x11000000, 0xFFFFFF00⟩,
   ⟨"CRCBUF", 0x12000000, 0xFFFEFE00⟩,
   ⟨"CRCAPP", 0x13000000, 0xFFFFFFFF⟩,
   ⟨"CRCVFY", 0x14000000, 0xFFFEFFFF⟩,
   ⟨"ADDRCONV", 0x20000000, 0xFFFFFFFF⟩,
   ⟨"BUILD", 0x21000000, 0xFFFFFFFF⟩,
   ⟨"EXPLEN", 0x22000000, 0xFFFFFFFF⟩,
   ⟨"PARSE", 0x30000000, 0xFFFFFFFF⟩,
   ⟨"SCALSET", 0x40000000, 0xFFFF0000⟩,
   ⟨"SCALLD", 0x41000000, 0xFFFFFF80⟩,
   ⟨"SCALCLR", 0x42000000, 0xFFFFFFFF⟩,
   ⟨"RESOLVE", 0x43000000, 0xFFFFFFFF⟩,
   ⟨"SCALE16", 0x44000000, 0xFFFFF880⟩,
   ⟨"SCALE32", 0x45000000, 0xFFFFF880⟩,
   ⟨"P3FIX", 0x46000000, 0xFFFFFFFF⟩,
   ⟨"DECODE", 0x47000000, 0xFFFFFFFF⟩,
   ⟨"FILTER", 0x50000000, 0xFFFFFFFF⟩]

/-- R81 step 3 on the fields of formats L and F, by the row selected. -/
def fieldsLegal (r : Row) (w : Word) : Bool :=
  if r.pattern = 0x12000000 then decide ((w.extractLsb' 0 9).toNat ≤ 256)
  else if r.pattern = 0x44000000 ∨ r.pattern = 0x45000000 then decide ((w.extractLsb' 8 3).toNat ≤ 5)
  else true

/-! ### Words numbered as spec/opcode_table.json numbers them -/

/-- The frame whose function-code byte is `fn` and whose other bytes are 0, as short as its layout allows. Several
rows share a byte: bit 7 set selects the error reply, any other byte a request (log 6). -/
def tableFrame (fn : Byte) : Image :=
  if fn.getLsbD 7 then .frame .rx [0, fn, 0, 0, 0]
  else if fn = 0x10 then .frame .tx [0, fn, 0, 0, 0, 0, 0, 0, 0]
  else .frame .tx [0, fn, 0, 0, 0, 0, 0, 0]

/-- A row of 8 bits is a frame row, `w` its byte 1 (R104); any other is a command word. -/
def tableImage (nbits w : Nat) : Image :=
  if nbits ≤ 8 then tableFrame (BitVec.ofNat 8 w) else .command (BitVec.ofNat 32 w)

/-- The instruction the decoder reads from a word of the opcode table, in a block that has the filter
(`HAS_FILTER` has the default true, R8). -/
def decodeTableWord (nbits w : Nat) : Option Instr :=
  match decodeImage true (tableImage nbits w) with
  | .ok i => some i
  | .error _ => none

end Sys2Proof
end

