-- ==== Sys2Proof/Machine/State.lean ====
section
/-! DEFINITION. The state of MBCORE (10_state.md R20 to R51), the host's action list (R22), the parameters (00_scope.md
R8), and the state after reset (R50, 70_reset_and_hazards.md R280). -/

namespace Sys2Proof.Machine

/-- A multiplier: `M / 10^E`, `M < 2^32`, `E <= 15` (43_scaling.md R180). -/
structure Mult where
  m : BitVec 32
  e : BitVec 4
  deriving DecidableEq, Repr

/-- A result (R180): `ACC` (10_state.md R44). -/
structure Dec where
  m : BitVec 64
  e : BitVec 5
  deriving DecidableEq, Repr

/-- One entry of `OUT` (10_state.md R46). `fl` bits: 0 `P3`, 1 `PWR`, 2 `ENG`, 3 `FRQ`. -/
structure OutField where
  m : BitVec 64
  e : BitVec 5
  fl : BitVec 4
  deriving DecidableEq, Repr

/-- One row of `MTAB` (43_scaling.md R200). -/
structure MtabRow where
  power : Mult
  pf : Mult
  current : Mult
  voltage : Mult
  deriving DecidableEq, Repr

/-- The model arguments of 00_scope.md R8, not state of the block (R20): no step writes them (log 3). -/
structure Params where
  /-- `HAS_FILTER`. -/
  hasFilter : Bool
  /-- `BASE`, the bus address of the register space (20_memory.md R61). -/
  base : Nat
  /-- `MTAB[0..6]`. -/
  mtab : Vector MtabRow 7
  /-- `M15[0..4]`. -/
  m15 : Vector Mult 5
  /-- `MDEF[0..4]`, never selected (43_scaling.md R187). -/
  mdef : Vector Mult 5
  deriving DecidableEq, Repr

/-- One host action (10_state.md R22). -/
inductive HostAction where
  /-- `MemRead(addr, n)` (20_memory.md R62, R63): a bus address and a width in bytes. -/
  | read (addr n : Nat)
  /-- `MemWrite(addr, n, v)`. -/
  | write (addr n : Nat) (v : Word)
  /-- `LOADTX` or `LOADRX` with these bytes (30_encoding.md R103; log 5). -/
  | load (buf : BufSel) (bytes : List Byte)
  deriving DecidableEq, Repr

structure State where
  cmd : BitVec 32
  status : BitVec 32
  err : BitVec 8
  faults : BitVec 16
  cfg : BitVec 32
  defscalar : BitVec 16
  crc : BitVec 16
  devaddr : BitVec 32
  func : BitVec 32
  regaddr : BitVec 32
  count : BitVec 32
  nval : BitVec 32
  waddr : BitVec 16
  txlen : BitVec 32
  explen : BitVec 32
  rxlen : BitVec 32
  rkind : BitVec 3
  rflags : BitVec 4
  rdev : BitVec 8
  rfunc : BitVec 8
  rcode : BitVec 8
  rmsg : BitVec 4
  rbc : BitVec 8
  regn : BitVec 32
  rwaddr : BitVec 16
  rwval : BitVec 16
  scalar : BitVec 16
  scalused : BitVec 16
  msrc : BitVec 3
  midx : BitVec 3
  acc : Dec
  nfd : BitVec 32
  outn : BitVec 7
  val : Vector (BitVec 32) Config.valSize
  txbuf : Vector (BitVec 8) Config.bufSize
  rxbuf : Vector (BitVec 8) Config.bufSize
  reg : Vector (BitVec 16) Config.regSize
  man : Vector Mult 5
  mset : Vector Mult 5
  fd : Vector (BitVec 32) Config.fdSize
  out : Vector OutField Config.fdSize
  /-- The host's actions, the "program" of R22 (log 1). -/
  prog : List HostAction
  /-- The index of the next action (R22). -/
  pc : Nat
  /-- What the host's last `MemRead` returned (20_memory.md R62; log 2). -/
  rdata : BitVec 32
  params : Params
  deriving DecidableEq, Repr

/-- Why a step has no successor. -/
inductive Fault where
  /-- Raised by a host access that is not an aligned 32-bit word inside the register space: "the model gives them no
  step (the host is stuck; errs toward unprovable)" (20_memory.md R63). Safe. -/
  | hostStuck
  /-- Raised by a `LOADTX` or `LOADRX` line, or a frame, of more bytes than the buffer has elements: there is no
  `TXBUF[256]` (00_scope.md R11, log 8). Safe. -/
  | loadBeyondBuffer
  deriving DecidableEq, Repr

/-- Why an instruction has no meaning. -/
inductive Refusal where
  /-- Raised only by an arm of exec whose instruction has no meaning yet. Safe. -/
  | notModelled (mnemonic : String)
  deriving DecidableEq, Repr

/-- A ROM multiplier the spec leaves open (43_scaling.md R200): a free value (log 3). -/
def romMult (set cls : Nat) : Mult := ⟨Config.romM set cls, Config.romE set cls⟩

/-- Row `k` of `MTAB`: free values, but `MTAB[3].power = (1, 1)` (43_scaling.md R186). -/
def romRow (k : Nat) : MtabRow where
  power := if k = 3 then ⟨1, 1⟩ else romMult k 0
  pf := romMult k 3
  current := romMult k 1
  voltage := romMult k 2

/-- `HAS_FILTER` has the default true (R8); `BASE` 0 is a DESIGN CHOICE nothing depends on (log 3). -/
def Params.reset : Params where
  hasFilter := true
  base := 0
  mtab := tabulate 7 romRow
  m15 := tabulate 5 (romMult 15)
  mdef := tabulate 5 (romMult 16)

/-- The state after reset (R50, R51, R280). The array contents are free values (log 4), the host's list is empty
(log 1, log 10). -/
def State.reset : State where
  cmd := 0
  status := 0
  err := 0
  faults := 0
  cfg := 0x00000003
  defscalar := 0
  crc := 0xFFFF
  devaddr := 0
  func := 0
  regaddr := 0
  count := 0
  nval := 0
  waddr := 0
  txlen := 0
  explen := 0
  rxlen := 0
  rkind := 0
  rflags := 0
  rdev := 0
  rfunc := 0
  rcode := 0
  rmsg := 0
  rbc := 0
  regn := 0
  rwaddr := 0
  rwval := 0
  scalar := 0
  scalused := 0
  msrc := 0
  midx := 0
  acc := ⟨0, 0⟩
  nfd := 0
  outn := 0
  val := tabulate Config.valSize Config.resetVal
  txbuf := tabulate Config.bufSize Config.resetTx
  rxbuf := tabulate Config.bufSize Config.resetRx
  reg := tabulate Config.regSize Config.resetReg
  man := Vector.replicate 5 ⟨1, 0⟩
  mset := Vector.replicate 5 ⟨0, 0⟩
  fd := tabulate Config.fdSize Config.resetFd
  out := tabulate Config.fdSize fun i => ⟨Config.resetOutM i, Config.resetOutE i, Config.resetOutFl i⟩
  prog := []
  pc := 0
  rdata := 0
  params := Params.reset

end Sys2Proof.Machine
end

