-- ==== Sys2Proof/Machine/Flags.lean ====
section
/-! DEFINITION. The flags: bits of `STATUS`, `FAULTS`, `CFG`, `RFLAGS`, `OUT[i].FL` (10_state.md R23, R25, R27, R28,
R39, R46). -/

namespace Sys2Proof.Machine

/-- Write bit `i` of a register. -/
def setBit {w : Nat} (v : BitVec w) (i : Nat) (b : Bool) : BitVec w :=
  if b then v ||| BitVec.twoPow w i else v &&& ~~~BitVec.twoPow w i

/-! `STATUS` (R25). `BUSY`, bit 0, is written by nothing (20_memory.md R66). -/

def State.scalv (s : State) : Bool := s.status.getLsbD 1
def State.msetv (s : State) : Bool := s.status.getLsbD 2
def State.accv (s : State) : Bool := s.status.getLsbD 3
def State.outv (s : State) : Bool := s.status.getLsbD 4
def State.scaldef (s : State) : Bool := s.status.getLsbD 5

def setScalv (b : Bool) (s : State) : State := { s with status := setBit s.status 1 b }
def setMsetv (b : Bool) (s : State) : State := { s with status := setBit s.status 2 b }
def setAccv (b : Bool) (s : State) : State := { s with status := setBit s.status 3 b }
def setOutv (b : Bool) (s : State) : State := { s with status := setBit s.status 4 b }
def setScaldef (b : Bool) (s : State) : State := { s with status := setBit s.status 5 b }

/-! `CFG` (R28). -/

def State.crcchk (s : State) : Bool := s.cfg.getLsbD 0
def State.mswfirst (s : State) : Bool := s.cfg.getLsbD 1
def State.manual (s : State) : Bool := s.cfg.getLsbD 2
def State.detailed (s : State) : Bool := s.cfg.getLsbD 3

/-! `FAULTS` (R27): sticky, set by `raise` and by a resolution that used the default. -/

def setFault (i : Nat) (s : State) : State := { s with faults := setBit s.faults i true }

/-- `FAULTS.WARNDEF` (R27, 60_exceptions.md R262). -/
def warnDef (s : State) : State := setFault 8 s

/-- The host's acknowledgement: a write of `w` to `FAULTS` clears every bit `i` with `w[i] = 1` (R27, 60_exceptions.md
R259). -/
def clearFaults (w : Word) (s : State) : State := { s with faults := s.faults &&& ~~~w.setWidth 16 }

/-! `RFLAGS` (R39). -/

/-- `CRC_OK`, `ADDR_MATCH`, `FUNC_MATCH`, with `ECHO_MATCH` 0. -/
def replyFlags (crcOk addrMatch funcMatch : Bool) : BitVec 4 :=
  setBit (setBit (setBit 0 0 crcOk) 1 addrMatch) 2 funcMatch

def setEchoMatch (b : Bool) (s : State) : State := { s with rflags := setBit s.rflags 3 b }

/-! `OUT[i].FL` (R46): bit numbers. -/

abbrev flP3 : Nat := 0
abbrev flPwr : Nat := 1
abbrev flEng : Nat := 2
abbrev flFrq : Nat := 3

end Sys2Proof.Machine
end

