-- ==== Sys2Proof/Machine/Operands.lean ====
section
/-! DEFINITION. The operand forms: buffers by `SEL` (30_encoding.md R82), frame bytes, register-block elements,
multipliers by class (43_scaling.md R182), 32-bit combination (R191), field descriptors (R194), scaled numbers (R180,
R181). -/

namespace Sys2Proof.Machine

/-! ### Buffers and arrays -/

def bufOf (s : State) : BufSel → Vector (BitVec 8) Config.bufSize
  | .tx => s.txbuf
  | .rx => s.rxbuf

/-- `TXLEN` or `RXLEN`. -/
def lenOf (s : State) : BufSel → Nat
  | .tx => s.txlen.toNat
  | .rx => s.rxlen.toNat

def txAt (s : State) (i : Nat) : Byte := elem 0 s.txbuf i
def rxAt (s : State) (i : Nat) : Byte := elem 0 s.rxbuf i
def regAt (s : State) (i : Nat) : Half := elem 0 s.reg i
def fdAt (s : State) (i : Nat) : Word := elem 0 s.fd i
def outAt (s : State) (i : Nat) : OutField := elem ⟨0, 0, 0⟩ s.out i
def valAt (s : State) (i : Nat) : Word := elem 0 s.val i

/-- The 16-bit quantity in request bytes `i`, `i + 1` (R64). -/
def txHalf (s : State) (i : Nat) : Half := frombe16 (txAt s i) (txAt s (i + 1))

/-- The 16-bit quantity in response bytes `i`, `i + 1` (R64). -/
def rxHalf (s : State) (i : Nat) : Half := frombe16 (rxAt s i) (rxAt s (i + 1))

/-! ### Addresses -/

/-- `wire(l)` (41_frame_builder.md R130). -/
def wire (l : Nat) : Nat := if l ≥ 40001 then l - 40001 else l

/-! ### Numbers -/

/-- `scale(raw, (M, E))` (43_scaling.md R181 a). -/
def scale (raw : Nat) (mu : Mult) : Dec := ⟨BitVec.ofNat 64 (raw * mu.m.toNat), mu.e.setWidth 5⟩

/-- `value(M, E) > t` (R181 c). -/
def exceeds (m : BitVec 64) (e : BitVec 5) (t : Nat) : Bool := decide (t * 10 ^ e.toNat < m.toNat)

/-- `value(M, E) < t` (R181 c). -/
def below (m : BitVec 64) (e : BitVec 5) (t : Nat) : Bool := decide (m.toNat < t * 10 ^ e.toNat)

/-- `combine32(first, second)` (R191). -/
def combine32 (mswfirst : Bool) (first second : Half) : Word :=
  if mswfirst then first ++ second else second ++ first

/-- The combined value of `REG[off]` and `REG[off + 1]`. -/
def reg32 (s : State) (off : Nat) : Word := combine32 s.mswfirst (regAt s off) (regAt s (off + 1))

/-- `mult(c)` by class number: `MSET[c]`, and the constant `(1, 0)` for class `raw` (R182). -/
def multNum (s : State) (c : Nat) : Mult := if c = 5 then ⟨1, 0⟩ else elem ⟨0, 0⟩ s.mset c

def mult (s : State) (c : MClass) : Mult := multNum s c.num

/-- `FREQ_STD`, 0.005 (R200). -/
def freqStd : Mult := ⟨5, 3⟩

/-- The scaled value that phase 3 finds too large (R192): `value > 100000`. -/
def p3Exceeds (m : BitVec 64) (e : BitVec 5) : Bool := exceeds m e 100000

/-! ### Field descriptors (R194) -/

def fdOff (d : Word) : Nat := (d.extractLsb' 0 7).toNat
def fdW32 (d : Word) : Bool := d.getLsbD 7
def fdClass (d : Word) : Nat := (d.extractLsb' 8 3).toNat
def fdP3 (d : Word) : Bool := d.getLsbD 11
def fdRole (d : Word) : Nat := (d.extractLsb' 12 3).toNat
def fdReserved (d : Word) : Nat := (d.extractLsb' 15 17).toNat

/-- Registers the block must hold: 64 in detailed mode, else 22 (R201). -/
def need (s : State) : Nat := if s.detailed then 64 else 22

/-- Valid for a block of `n` registers (R194). -/
def fdValid (n : Nat) (d : Word) : Bool :=
  decide (fdReserved d = 0) && decide (fdClass d ≤ 5) && decide (fdRole d ≤ 4) &&
    decide (fdOff d + (if fdW32 d then 1 else 0) < n)

/-- The register value of a field (R195 step 5). -/
def fdRaw (s : State) (d : Word) : Nat :=
  if fdW32 d then (reg32 s (fdOff d)).toNat else (regAt s (fdOff d)).toNat

end Sys2Proof.Machine
end

