-- ==== Sys2Proof/Machine/Ops.lean ====
section
/-! DEFINITION. The shared operations: ending an operation with a result code (60_exceptions.md R250, R255), and
writing the buffers. Every operation ends through `finish` or `raise`. -/

namespace Sys2Proof.Machine

/-- The error result codes of R250. -/
inductive ErrCode where
  | illegalCommand
  | configuration
  | operand
  | frameShort
  | frameCrc
  | frameTrunc
  | frameCount
  | frameFunc
  | protocol
  | decode
  | descriptor
  | notReady
  deriving DecidableEq, Repr

/-- The code `ERR` takes (R250). -/
def codeOf : ErrCode → BitVec 8
  | .illegalCommand => 0x01
  | .configuration => 0x02
  | .operand => 0x03
  | .frameShort => 0x10
  | .frameCrc => 0x11
  | .frameTrunc => 0x12
  | .frameCount => 0x13
  | .frameFunc => 0x14
  | .protocol => 0x20
  | .decode => 0x30
  | .descriptor => 0x31
  | .notReady => 0x32

/-- The `FAULTS` bit of the code's class (R250). -/
def faultBit : ErrCode → Nat
  | .illegalCommand => 0
  | .operand => 1
  | .configuration => 2
  | .frameShort => 3
  | .frameCrc => 3
  | .frameTrunc => 3
  | .frameCount => 3
  | .frameFunc => 3
  | .protocol => 4
  | .decode => 5
  | .descriptor => 6
  | .notReady => 7

/-- `raise <Error>` (R255 (1), (2)) from the state that already holds the operation's kept and on-error writes (R255
(3), (4)). This is the whole of the block's exception entry (R258): nothing is saved, nothing is redirected. -/
def raise (e : ErrCode) (s : State) : State := setFault (faultBit e) { s with err := codeOf e }

/-- An operation that ends without `raise` ends with `ERR <- 0x00` (00_scope.md R11). -/
def finish (s : State) : State := { s with err := 0x00 }

/-- Put a frame into `TXBUF` with its length (41_frame_builder.md R132). -/
def setTxFrame (bytes : List Byte) (s : State) : State :=
  { s with txbuf := putAll s.txbuf 0 bytes, txlen := BitVec.ofNat 32 bytes.length }

/-- Put response bytes into `RXBUF` with their number (30_encoding.md R103). -/
def setRxFrame (bytes : List Byte) (s : State) : State :=
  { s with rxbuf := putAll s.rxbuf 0 bytes, rxlen := BitVec.ofNat 32 bytes.length }

/-- `LOADTX` or `LOADRX` (R103): the bytes from index 0, then the length. More bytes than the buffer has elements is
no such line (log 8). -/
def loadFrame (b : BufSel) (bytes : List Byte) (s : State) : Host.Outcome State Fault Refusal :=
  if bytes.length ≤ Config.bufSize then
    .next (match b with
      | .tx => setTxFrame bytes s
      | .rx => setRxFrame bytes s)
  else .fault .loadBeyondBuffer

end Sys2Proof.Machine
end

