-- ==== Sys2Proof/Machine/CrcEngine.lean ====
section
/-! DEFINITION. The CRC engine (40_crc.md R110 to R119). -/

namespace Sys2Proof.Machine

/-- `crc_bit` (R110). -/
def crcBit (c : Half) : Half := if c.getLsbD 0 then (c >>> 1) ^^^ 0xA001 else c >>> 1

/-- `crc_byte` (R110): the byte into bits 7:0, then eight iterations. -/
def crcByte (c : Half) (b : Byte) : Half := Nat.repeat crcBit 8 (c ^^^ b.setWidth 16)

/-- The fold of `crc_byte` over `bytes` started from `c` (R118 a). -/
def crcFrom (c : Half) (bytes : List Byte) : Half := bytes.foldl crcByte c

/-- `crc16(s)` (R112). -/
def crc16 (bytes : List Byte) : Half := crcFrom 0xFFFF bytes

/-- The bytes closed by their CRC, low byte first (30_encoding.md R91). -/
def withCrc (bytes : List Byte) : List Byte := bytes ++ le16 (crc16 bytes)

/-- R113. -/
def execCrcinit (s : State) : Host.Outcome State Fault Refusal := .next (finish { s with crc := 0xFFFF })

/-- R114. -/
def execCrcbyte (imm8 : BitVec 8) (s : State) : Host.Outcome State Fault Refusal :=
  .next (finish { s with crc := crcByte s.crc imm8 })

/-- R115. -/
def crcbuf (sel : BufSel) (len : Nat) (s : State) : State :=
  if 256 < lenOf s sel ∨ lenOf s sel < len then raise .operand s
  else finish { s with crc := crc16 (firstN (bufOf s sel) len) }

def execCrcbuf (sel : BufSel) (len : BitVec 9) (s : State) : Host.Outcome State Fault Refusal :=
  .next (crcbuf sel len.toNat s)

/-- R116. -/
def crcapp (s : State) : State :=
  if 254 < s.txlen.toNat then raise .operand s
  else
    let c := crc16 (firstN s.txbuf s.txlen.toNat)
    finish { s with
      crc := c
      txbuf := putAll s.txbuf s.txlen.toNat (le16 c)
      txlen := s.txlen + 2 }

def execCrcapp (s : State) : Host.Outcome State Fault Refusal := .next (crcapp s)

/-- The CRC of all but the last two of `n` bytes (R117, 42_frame_parser.md R152). -/
def bodyCrc (s : State) (sel : BufSel) : Half := crc16 (firstN (bufOf s sel) (lenOf s sel - 2))

/-- The last two bytes are `c`, low byte first. -/
def crcMatches (s : State) (sel : BufSel) (c : Half) : Bool :=
  decide (elem 0 (bufOf s sel) (lenOf s sel - 2) = lo8 c) && decide (elem 0 (bufOf s sel) (lenOf s sel - 1) = hi8 c)

/-- R117. -/
def crcvfy (sel : BufSel) (s : State) : State :=
  if 256 < lenOf s sel ∨ lenOf s sel < 2 then raise .operand s
  else if crcMatches s sel (bodyCrc s sel) then finish { s with crc := bodyCrc s sel }
  else raise .frameCrc { s with crc := bodyCrc s sel }

def execCrcvfy (sel : BufSel) (s : State) : Host.Outcome State Fault Refusal := .next (crcvfy sel s)

end Sys2Proof.Machine
end

