-- ==== Sys2Proof/Machine/FrameBuilder.lean ====
section
/-! DEFINITION. The frame builder (41_frame_builder.md R130 to R141). -/

namespace Sys2Proof.Machine

/-- R131. -/
def addrconv (s : State) : State :=
  if 0xFFFF < wire s.regaddr.toNat then raise .configuration s
  else finish { s with waddr := BitVec.ofNat 16 (wire s.regaddr.toNat) }

def execAddrconv (s : State) : Host.Outcome State Fault Refusal := .next (addrconv s)

/-- The write values of a function 16 request (R135). -/
def writeValues (s : State) : List Half :=
  if s.nval.toNat = 0 then List.replicate s.count.toNat 0
  else (firstN s.val s.count.toNat).map (BitVec.setWidth 16)

/-- The write value of a function 6 request (R134). -/
def writeValue (s : State) : Half := if 1 ≤ s.nval.toNat then (valAt s 0).setWidth 16 else 0

/-- The eight conditions of R136. -/
def buildRejects (s : State) : Bool :=
  let f := s.func.toNat
  let n := s.count.toNat
  let k := s.nval.toNat
  decide (s.devaddr.toNat < 1 ∨ 247 < s.devaddr.toNat) ||
  decide (¬(f = 3 ∨ f = 4 ∨ f = 6 ∨ f = 16)) ||
  decide (0xFFFF < wire s.regaddr.toNat) ||
  decide ((f = 3 ∨ f = 4) ∧ (n < 1 ∨ 125 < n)) ||
  decide (f = 16 ∧ (n < 1 ∨ 123 < n)) ||
  decide ((f = 6 ∨ f = 16) ∧ 123 < k) ||
  decide (f = 16 ∧ k ≠ 0 ∧ k ≠ n) ||
  decide (f = 6 ∧ 1 ≤ k ∧ 0xFFFF < (valAt s 0).toNat) ||
  (decide (f = 16 ∧ k = n) && (firstN s.val n).any fun v => decide (0xFFFF < v.toNat))

/-- The wire address as the frame carries it. -/
def wireHalf (s : State) : Half := BitVec.ofNat 16 (wire s.regaddr.toNat)

/-- `head` of R132. -/
def buildHead (s : State) : List Byte := s.devaddr.setWidth 8 :: s.func.setWidth 8 :: be16 (wireHalf s)

/-- `body` of R132 (R133, R134, R135). -/
def buildBody (s : State) : List Byte :=
  if s.func.toNat = 6 then buildHead s ++ be16 (writeValue s)
  else if s.func.toNat = 16 then
    buildHead s ++ be16 (s.count.setWidth 16) ++ BitVec.ofNat 8 (2 * s.count.toNat) :: (writeValues s).flatMap be16
  else buildHead s ++ be16 (s.count.setWidth 16)

/-- R132; on error R137. -/
def build (s : State) : State :=
  if buildRejects s then raise .configuration { s with txlen := 0 }
  else
    finish { setTxFrame (withCrc (buildBody s)) s with waddr := wireHalf s, crc := crc16 (buildBody s) }

def execBuild (s : State) : Host.Outcome State Fault Refusal := .next (build s)

/-- `expectedResponseLength` of the request in `TXBUF` (R140). -/
def expectedLength (s : State) : Nat :=
  if s.txlen.toNat < 6 then 256
  else if (txAt s 1).toNat = 3 ∨ (txAt s 1).toNat = 4 then 5 + 2 * (txHalf s 4).toNat
  else if (txAt s 1).toNat = 6 ∨ (txAt s 1).toNat = 16 then 8
  else 256

/-- R140. -/
def explenOp (s : State) : State :=
  if 256 < s.txlen.toNat then raise .operand s
  else finish { s with explen := BitVec.ofNat 32 (expectedLength s) }

def execExplen (s : State) : Host.Outcome State Fault Refusal := .next (explenOp s)

end Sys2Proof.Machine
end

