-- ==== Sys2Proof/Machine/FrameParser.lean ====
section
/-! DEFINITION. The frame parser and validator (42_frame_parser.md R150 to R168). -/

namespace Sys2Proof.Machine

/-- `msgidx(code)` (R158). -/
def msgIdx (code : Byte) : BitVec 4 :=
  if code.toNat ∈ [1, 2, 3, 4, 5, 6, 8, 10, 11] then code.setWidth 4 else 0

/-- The message of an `RMSG` index, for display only (R158). -/
def exceptionMessage (rmsg : BitVec 4) : String :=
  match rmsg.toNat with
  | 1 => "Illegal Function"
  | 2 => "Illegal Data Address"
  | 3 => "Illegal Data Value"
  | 4 => "Slave Device Failure"
  | 5 => "Acknowledge"
  | 6 => "Slave Device Busy"
  | 8 => "Memory Parity Error"
  | 10 => "Gateway Path Unavailable"
  | 11 => "Gateway Target Device Failed to Respond"
  | _ => "Unknown Error"

/-- Step 0 (R164). -/
def parseClear (s : State) : State :=
  { s with
    rkind := 0, rflags := 0, rdev := 0, rfunc := 0, rcode := 0, rmsg := 0, rbc := 0, rwaddr := 0, rwval := 0
    regn := 0 }

/-- Steps 3 and 4 (R152, R153). -/
def parseHeader (s : State) : State :=
  { s with
    rdev := rxAt s 0
    rfunc := rxAt s 1
    crc := bodyCrc s .rx
    rflags := replyFlags (crcMatches s .rx (bodyCrc s .rx))
      (decide (1 ≤ s.txlen.toNat ∧ rxAt s 0 = txAt s 0))
      (decide (2 ≤ s.txlen.toNat ∧ rxAt s 1 &&& 0x7F = txAt s 1)) }

/-- The request is a read of at least 6 bytes and asked another count (R161). -/
def countMismatch (s : State) : Bool :=
  decide (6 ≤ s.txlen.toNat ∧ ((txAt s 1).toNat = 3 ∨ (txAt s 1).toNat = 4) ∧
    (rxAt s 2).toNat ≠ 2 * (txHalf s 4).toNat)

/-- The register values of a read reply of byte-count `bc` (R159). -/
def replyRegs (s : State) (bc : Nat) : List Half := (List.range (bc / 2)).map fun i => rxHalf s (3 + 2 * i)

/-- Step 7, function 3 or 4 (R159, R160, R161). -/
def parseRead (s : State) : State :=
  let bc := (rxAt s 2).toNat
  let t := { s with rbc := rxAt s 2 }
  if s.rxlen.toNat < 3 + bc then raise .frameTrunc t
  else if bc % 2 = 1 then raise .frameCount t
  else if countMismatch s then raise .frameCount t
  else finish { t with reg := putAll s.reg 0 (replyRegs s bc), regn := BitVec.ofNat 32 (bc / 2), rkind := 1 }

/-- Step 7, function 6 or 16 (R162). -/
def parseEcho (s : State) : State :=
  if s.rxlen.toNat < 6 then raise .frameTrunc s
  else
    finish (setEchoMatch (decide (6 ≤ s.txlen.toNat ∧ firstN s.rxbuf 6 = firstN s.txbuf 6))
      { s with
        rwaddr := rxHalf s 2
        rwval := rxHalf s 4
        rkind := if (rxAt s 1).toNat = 6 then 2 else 3 })

/-- Step 6 (R154, R158). -/
def parseError (s : State) : State :=
  raise .protocol { s with rkind := 4, rcode := rxAt s 2, rmsg := msgIdx (rxAt s 2) }

/-- Steps 5 to 7 from the state of step 4; the first failing check ends the operation (R165). -/
def parseBody (s : State) : State :=
  if s.crcchk && !s.rflags.getLsbD 0 then raise .frameCrc s
  else if (rxAt s 1).getLsbD 7 then parseError s
  else if (rxAt s 1).toNat = 3 ∨ (rxAt s 1).toNat = 4 then parseRead s
  else if (rxAt s 1).toNat = 6 ∨ (rxAt s 1).toNat = 16 then parseEcho s
  else raise .frameFunc s

/-- R150. -/
def parse (s : State) : State :=
  let t := parseClear s
  if 256 < s.rxlen.toNat ∨ 256 < s.txlen.toNat then raise .operand t
  else if s.rxlen.toNat < 3 then raise .frameShort t
  else parseBody (parseHeader t)

def execParse (s : State) : Host.Outcome State Fault Refusal := .next (parse s)

end Sys2Proof.Machine
end

