-- ==== Sys2Proof/Machine/Frames.lean ====
section
/-! DEFINITION. The frame rows as instructions (30_encoding.md R91 to R98, R104): the host's listing line that puts
the frame into its buffer, `LOADTX` for a request, `LOADRX` for a reply (R103, 41_frame_builder.md R139; log 5). -/

namespace Sys2Proof.Machine

/-- Put the bytes of an encoded frame into its buffer. A command word is no frame; none reaches this. -/
def loadImage (im : Image) (s : State) : Host.Outcome State Fault Refusal :=
  match im with
  | .frame b bytes => loadFrame b bytes s
  | .command _ => .next s

/-- The frame invariant of R91: the last two bytes are the CRC of the bytes before them, low byte first. -/
def crcGood (bytes : List Byte) : Bool :=
  decide (2 ≤ bytes.length) && decide (bytes = withCrc (bytes.take (bytes.length - 2)))

/-- R92, function 3. -/
def execReqReadHolding (dev : Byte) (w n c : Half) (s : State) : Host.Outcome State Fault Refusal :=
  loadImage (encode (.reqReadHolding dev w n c)) s

/-- R92, function 4. -/
def execReqReadInput (dev : Byte) (w n c : Half) (s : State) : Host.Outcome State Fault Refusal :=
  loadImage (encode (.reqReadInput dev w n c)) s

/-- R93. -/
def execReqWriteSingle (dev : Byte) (w v c : Half) (s : State) : Host.Outcome State Fault Refusal :=
  loadImage (encode (.reqWriteSingle dev w v c)) s

/-- R94. -/
def execReqWriteMultiple (dev : Byte) (w : Half) (vs : List Half) (c : Half) (s : State) :
    Host.Outcome State Fault Refusal :=
  loadImage (encode (.reqWriteMultiple dev w vs c)) s

/-- R95, function 3. -/
def execRspReadHolding (dev : Byte) (rs : List Half) (c : Half) (s : State) : Host.Outcome State Fault Refusal :=
  loadImage (encode (.rspReadHolding dev rs c)) s

/-- R95, function 4. -/
def execRspReadInput (dev : Byte) (rs : List Half) (c : Half) (s : State) : Host.Outcome State Fault Refusal :=
  loadImage (encode (.rspReadInput dev rs c)) s

/-- R96. -/
def execRspWriteSingle (dev : Byte) (w v c : Half) (s : State) : Host.Outcome State Fault Refusal :=
  loadImage (encode (.rspWriteSingle dev w v c)) s

/-- R97. -/
def execRspWriteMultiple (dev : Byte) (w n c : Half) (s : State) : Host.Outcome State Fault Refusal :=
  loadImage (encode (.rspWriteMultiple dev w n c)) s

/-- R98. -/
def execRspError (dev fn code : Byte) (c : Half) (s : State) : Host.Outcome State Fault Refusal :=
  loadImage (encode (.rspError dev fn code c)) s

end Sys2Proof.Machine
end

