-- ==== Sys2Proof/Machine/Plausibility.lean ====
section
/-! DEFINITION. The plausibility filter (44_plausibility_filter.md R220 to R228). -/

namespace Sys2Proof.Machine

/-- Division by 10 or 100, exact (43_scaling.md R181 b), with the flag of the correction. -/
def divided (k : BitVec 5) (flag : Nat) (f : OutField) : OutField := ⟨f.m, f.e + k, setBit f.fl flag true⟩

/-- Step 4 on one entry (R222): the ceilings 10000 of role 1 and 5000 of role 2. -/
def powerStage (d : Word) (f : OutField) : OutField :=
  if fdRole d = 1 ∧ exceeds f.m f.e 10000 then divided 1 flPwr f
  else if fdRole d = 2 ∧ exceeds f.m f.e 5000 then divided 1 flPwr f
  else f

/-- Step 5 on one entry (R223). -/
def energyStage (d : Word) (f : OutField) : OutField :=
  if fdRole d = 3 ∧ exceeds f.m f.e 1000000000 then divided 2 flEng f else f

/-- The corrected frequency of a raw register value, where a band applies (R224). -/
def frequencyBand (raw : Nat) : Option Dec :=
  if 550 < raw ∧ raw < 650 then some ⟨BitVec.ofNat 64 raw, 1⟩
  else if 5500 < raw ∧ raw < 6500 then some ⟨BitVec.ofNat 64 raw, 2⟩
  else if 10000 < raw then some ⟨BitVec.ofNat 64 (raw * 5), 3⟩
  else none

/-- Step 6 on one entry (R224). -/
def frequencyStage (s : State) (d : Word) (f : OutField) : OutField :=
  if fdRole d = 4 ∧ (below f.m f.e 45 ∨ exceeds f.m f.e 65) then
    match frequencyBand (regAt s (fdOff d)).toNat with
    | some v => ⟨v.m, v.e, setBit f.fl flFrq true⟩
    | none => f
  else f

/-- One stage over `OUT[0..OUTN-1]`, each entry with its descriptor (R220). -/
def overOut (stage : Word → OutField → OutField) (s : State) : State :=
  { s with
    out := putAll s.out 0
      (List.zipWith stage (firstN s.fd s.outn.toNat) (firstN s.out s.outn.toNat)) }

/-- The three stages in the source's order (R225). -/
def filterStages (s : State) : State :=
  overOut (frequencyStage s) (overOut energyStage (overOut powerStage s))

/-- The checks of steps 1 to 3, in order (R220). -/
def filterCheck (s : State) : Option ErrCode :=
  if 126 < s.regn.toNat then some .operand
  else if s.outv = false then some .notReady
  else if (firstN s.fd s.outn.toNat).any fun d => decide (fdRole d = 4 ∧ s.regn.toNat ≤ fdOff d) then some .decode
  else none

/-- R220. -/
def filterBlock (s : State) : State :=
  match filterCheck s with
  | some e => raise e s
  | none => finish (filterStages s)

def execFilter (s : State) : Host.Outcome State Fault Refusal := .next (filterBlock s)

end Sys2Proof.Machine
end

