-- ==== Sys2Proof/Machine/Scaling.lean ====
section
/-! DEFINITION. The register decoder and scaling engine (43_scaling.md R180 to R203). -/

namespace Sys2Proof.Machine

/-- R183. -/
def execScalset (imm16 : BitVec 16) (s : State) : Host.Outcome State Fault Refusal :=
  .next (finish (setScalv true { s with scalar := imm16 }))

/-- R197. -/
def scalld (idx : Nat) (s : State) : State :=
  if 126 < s.regn.toNat then raise .operand s
  else if s.regn.toNat ≤ idx then raise .decode s
  else finish (setScalv true { s with scalar := regAt s idx })

def execScalld (idx : BitVec 7) (s : State) : Host.Outcome State Fault Refusal := .next (scalld idx.toNat s)

/-- R198. -/
def execScalclr (s : State) : Host.Outcome State Fault Refusal := .next (finish (setScalv false s))

/-! ### Resolution (R184 to R188) -/

/-- Row `k` of `MTAB` as a multiplier set, indexed by class, with the fixed frequency multiplier (R184). -/
def standardSet (p : Params) (k : Nat) : Vector Mult 5 :=
  let row := elem ⟨⟨0, 0⟩, ⟨0, 0⟩, ⟨0, 0⟩, ⟨0, 0⟩⟩ p.mtab k
  #v[row.power, row.current, row.voltage, row.pf, freqStd]

/-- The clamp (R185). -/
def clampScalar (n : Nat) : Nat := if n ≤ 6 then n else 6

/-- Step 1: the scalar, from the cache or the default, which is warned about (R184). -/
def resolveScalar (s : State) : State :=
  if s.scalv then setScaldef false { s with scalused := s.scalar }
  else warnDef (setScaldef true { s with scalused := s.defscalar })

/-- Step 2: the multiplier set (R185, R188). -/
def resolveSet (s : State) : State :=
  if s.manual then { s with mset := s.man, msrc := 3, midx := 0 }
  else if s.scalused.toNat = 15 then { s with mset := s.params.m15, msrc := 2, midx := 0 }
  else
    { s with
      mset := standardSet s.params (clampScalar s.scalused.toNat)
      msrc := 1
      midx := BitVec.ofNat 3 (clampScalar s.scalused.toNat) }

/-- `resolve()` (R184). -/
def resolve (s : State) : State := setMsetv true (resolveSet (resolveScalar s))

def execResolve (s : State) : Host.Outcome State Fault Refusal := .next (finish (resolve s))

/-! ### One value (R189 to R192) -/

/-- The checks of `SCALE16` and `SCALE32` in their order (R189, R190); `last` is the highest register read. -/
def scaleCheck (last : Nat) (c : MClass) (s : State) : Option ErrCode :=
  if 126 < s.regn.toNat then some .operand
  else if c ≠ .raw ∧ s.msetv = false then some .notReady
  else if s.regn.toNat ≤ last then some .decode
  else none

/-- `ACC` and `ACCV` after the checks: the scaled value, or `ACCV` cleared and the error (R189, R255). -/
def scaleTo (check : Option ErrCode) (raw : Nat) (c : MClass) (s : State) : State :=
  match check with
  | some e => raise e (setAccv false s)
  | none => finish (setAccv true { s with acc := scale raw (mult s c) })

/-- R189. -/
def execScale16 (off : BitVec 7) (c : MClass) (s : State) : Host.Outcome State Fault Refusal :=
  .next (scaleTo (scaleCheck off.toNat c s) (regAt s off.toNat).toNat c s)

/-- R190. -/
def execScale32 (off : BitVec 7) (c : MClass) (s : State) : Host.Outcome State Fault Refusal :=
  .next (scaleTo (scaleCheck (off.toNat + 1) c s) (reg32 s off.toNat).toNat c s)

/-- R192. -/
def p3fix (s : State) : State :=
  if s.accv = false then raise .notReady s
  else if p3Exceeds s.acc.m s.acc.e then finish { s with acc := ⟨s.acc.m, s.acc.e + 1⟩ }
  else finish s

def execP3fix (s : State) : Host.Outcome State Fault Refusal := .next (p3fix s)

/-! ### The whole block (R194, R195, R201, R202) -/

/-- One output field, before any filter (R195 step 5, R192). -/
def decodeField (s : State) (d : Word) : OutField :=
  let v := scale (fdRaw s d) (multNum s (fdClass d))
  if fdP3 d && p3Exceeds v.m v.e then ⟨v.m, v.e + 1, setBit 0 flP3 true⟩ else ⟨v.m, v.e, 0⟩

/-- The checks of steps 1 to 3, in order (R195). -/
def decodeCheck (s : State) : Option ErrCode :=
  if 126 < s.regn.toNat ∨ 64 < s.nfd.toNat then some .operand
  else if s.regn.toNat < need s then some .decode
  else if (firstN s.fd s.nfd.toNat).all (fdValid (need s)) then none
  else some .descriptor

/-- Steps 5 and 6, from the state with the set resolved. -/
def decodeOut (s : State) : State :=
  setOutv true { s with
    out := putAll s.out 0 ((firstN s.fd s.nfd.toNat).map (decodeField s))
    outn := s.nfd.setWidth 7 }

/-- R195. -/
def decodeBlock (s : State) : State :=
  match decodeCheck s with
  | some e => raise e (setOutv false s)
  | none => finish (decodeOut (resolve s))

def execDecode (s : State) : Host.Outcome State Fault Refusal := .next (decodeBlock s)

end Sys2Proof.Machine
end

