-- ==== Sys2Proof/Machine/System.lean ====
section
/-! DEFINITION. System operations (45_system.md R235, R236). -/

namespace Sys2Proof.Machine

/-- R235. -/
def execNop (s : State) : Host.Outcome State Fault Refusal := .next (finish s)

/-- The scalar registers of 10_state.md R50 at their reset values, with `MAN` and `MSET`, but for `CMD`, which holds
the word just written (45_system.md R236). -/
def softReset (s : State) : State :=
  { s with
    status := 0, err := 0, faults := 0, cfg := 0x00000003, defscalar := 0, crc := 0xFFFF
    devaddr := 0, func := 0, regaddr := 0, count := 0, nval := 0, waddr := 0, txlen := 0, explen := 0, rxlen := 0
    rkind := 0, rflags := 0, rdev := 0, rfunc := 0, rcode := 0, rmsg := 0, rbc := 0, regn := 0, rwaddr := 0, rwval := 0
    scalar := 0, scalused := 0, msrc := 0, midx := 0, acc := ⟨0, 0⟩, nfd := 0, outn := 0
    man := Vector.replicate 5 ⟨1, 0⟩, mset := Vector.replicate 5 ⟨0, 0⟩ }

/-- R236. -/
def execSrst (s : State) : Host.Outcome State Fault Refusal := .next (finish (softReset s))

end Sys2Proof.Machine
end

