-- ==== Sys2Proof/Machine/Dispatch.lean ====
section
/-! DEFINITION. One arm per instruction, one direct call of its meaning. -/

namespace Sys2Proof.Machine

def exec (i : Instr) (s : State) : Host.Outcome State Fault Refusal :=
  match i with
  | .nop => Sys2Proof.Machine.execNop s
  | .srst => Sys2Proof.Machine.execSrst s
  | .crcinit => Sys2Proof.Machine.execCrcinit s
  | .crcbyte imm8 => Sys2Proof.Machine.execCrcbyte imm8 s
  | .crcbuf sel len => Sys2Proof.Machine.execCrcbuf sel len s
  | .crcapp => Sys2Proof.Machine.execCrcapp s
  | .crcvfy sel => Sys2Proof.Machine.execCrcvfy sel s
  | .addrconv => Sys2Proof.Machine.execAddrconv s
  | .build => Sys2Proof.Machine.execBuild s
  | .explen => Sys2Proof.Machine.execExplen s
  | .parse => Sys2Proof.Machine.execParse s
  | .scalset imm16 => Sys2Proof.Machine.execScalset imm16 s
  | .scalld idx => Sys2Proof.Machine.execScalld idx s
  | .scalclr => Sys2Proof.Machine.execScalclr s
  | .resolve => Sys2Proof.Machine.execResolve s
  | .scale16 off cls => Sys2Proof.Machine.execScale16 off cls s
  | .scale32 off cls => Sys2Proof.Machine.execScale32 off cls s
  | .p3fix => Sys2Proof.Machine.execP3fix s
  | .decode => Sys2Proof.Machine.execDecode s
  | .filter => Sys2Proof.Machine.execFilter s
  | .reqReadHolding dev w n c => Sys2Proof.Machine.execReqReadHolding dev w n c s
  | .reqReadInput dev w n c => Sys2Proof.Machine.execReqReadInput dev w n c s
  | .reqWriteSingle dev w v c => Sys2Proof.Machine.execReqWriteSingle dev w v c s
  | .reqWriteMultiple dev w vs c => Sys2Proof.Machine.execReqWriteMultiple dev w vs c s
  | .rspReadHolding dev rs c => Sys2Proof.Machine.execRspReadHolding dev rs c s
  | .rspReadInput dev rs c => Sys2Proof.Machine.execRspReadInput dev rs c s
  | .rspWriteSingle dev w v c => Sys2Proof.Machine.execRspWriteSingle dev w v c s
  | .rspWriteMultiple dev w n c => Sys2Proof.Machine.execRspWriteMultiple dev w n c s
  | .rspError dev fn code c => Sys2Proof.Machine.execRspError dev fn code c s

end Sys2Proof.Machine
end

