-- ==== Sys2Proof/Machine/RegisterMap.lean ====
section
/-! DEFINITION. The register space as the host sees it (20_memory.md R61 to R63, R67; the access rights and "stores"
of 10_state.md R24 to R46). -/

namespace Sys2Proof.Machine

/-- A mapped word of the register space (R61). -/
inductive Loc where
  | cmd | status | err | faults | cfg | defscalar | crc
  | devaddr | func | regaddr | count | nval | waddr | txlen | explen | rxlen
  | rkind | rflags | rdev | rfunc | rcode | rmsg | rbc | regn | rwaddr | rwval
  | scalar | scalused | msrc | midx | accLo | accHi | accE | nfd | outn
  | manM (c : Nat) | manE (c : Nat)
  | msetM (c : Nat) | msetE (c : Nat)
  | val (i : Nat) | txbuf (i : Nat) | rxbuf (i : Nat) | reg (i : Nat) | fd (i : Nat)
  | outLo (i : Nat) | outHi (i : Nat) | outE (i : Nat) | outFl (i : Nat)
  deriving DecidableEq, Repr

/-- The scalar registers' offsets (R61). -/
def scalarLoc (o : Nat) : Option Loc :=
  match o with
  | 0x000 => some .cmd
  | 0x001 => some .status
  | 0x002 => some .err
  | 0x003 => some .faults
  | 0x004 => some .cfg
  | 0x005 => some .defscalar
  | 0x006 => some .crc
  | 0x008 => some .devaddr
  | 0x009 => some .func
  | 0x00A => some .regaddr
  | 0x00B => some .count
  | 0x00C => some .nval
  | 0x00D => some .waddr
  | 0x00E => some .txlen
  | 0x00F => some .explen
  | 0x010 => some .rxlen
  | 0x011 => some .rkind
  | 0x012 => some .rflags
  | 0x013 => some .rdev
  | 0x014 => some .rfunc
  | 0x015 => some .rcode
  | 0x016 => some .rmsg
  | 0x017 => some .rbc
  | 0x018 => some .regn
  | 0x019 => some .rwaddr
  | 0x01A => some .rwval
  | 0x020 => some .scalar
  | 0x021 => some .scalused
  | 0x022 => some .msrc
  | 0x023 => some .midx
  | 0x024 => some .accLo
  | 0x025 => some .accHi
  | 0x026 => some .accE
  | 0x027 => some .nfd
  | 0x028 => some .outn
  | _ => none

/-- Words `M`, `E` of a pair array (10_state.md R43). -/
def pairLoc (k : Nat) (m e : Nat → Loc) : Loc := if k % 2 = 0 then m (k / 2) else e (k / 2)

/-- The four words of `OUT[i]` (10_state.md R46). -/
def outLoc (k : Nat) : Loc :=
  if k % 4 = 0 then .outLo (k / 4)
  else if k % 4 = 1 then .outHi (k / 4)
  else if k % 4 = 2 then .outE (k / 4)
  else .outFl (k / 4)

/-- The map of R61 by word offset; `none` is an unmapped offset. -/
def locate (o : Nat) : Option Loc :=
  if o < 0x030 then scalarLoc o
  else if o < 0x03A then some (pairLoc (o - 0x030) .manM .manE)
  else if o < 0x040 then none
  else if o < 0x04A then some (pairLoc (o - 0x040) .msetM .msetE)
  else if o < 0x080 then none
  else if o < 0x0FB then some (.val (o - 0x080))
  else if o < 0x100 then none
  else if o < 0x200 then some (.txbuf (o - 0x100))
  else if o < 0x300 then some (.rxbuf (o - 0x200))
  else if o < 0x37E then some (.reg (o - 0x300))
  else if o < 0x380 then none
  else if o < 0x3C0 then some (.fd (o - 0x380))
  else if o < 0x400 then none
  else if o < 0x500 then some (outLoc (o - 0x400))
  else none

def manAt (s : State) (c : Nat) : Mult := elem ⟨0, 0⟩ s.man c
def msetAt (s : State) (c : Nat) : Mult := elem ⟨0, 0⟩ s.mset c

/-- `MemRead`: the register, zero-extended to 32 bits (R62). -/
def readLoc (s : State) : Loc → Word
  | .cmd => s.cmd
  | .status => s.status
  | .err => s.err.setWidth 32
  | .faults => s.faults.setWidth 32
  | .cfg => s.cfg
  | .defscalar => s.defscalar.setWidth 32
  | .crc => s.crc.setWidth 32
  | .devaddr => s.devaddr
  | .func => s.func
  | .regaddr => s.regaddr
  | .count => s.count
  | .nval => s.nval
  | .waddr => s.waddr.setWidth 32
  | .txlen => s.txlen
  | .explen => s.explen
  | .rxlen => s.rxlen
  | .rkind => s.rkind.setWidth 32
  | .rflags => s.rflags.setWidth 32
  | .rdev => s.rdev.setWidth 32
  | .rfunc => s.rfunc.setWidth 32
  | .rcode => s.rcode.setWidth 32
  | .rmsg => s.rmsg.setWidth 32
  | .rbc => s.rbc.setWidth 32
  | .regn => s.regn
  | .rwaddr => s.rwaddr.setWidth 32
  | .rwval => s.rwval.setWidth 32
  | .scalar => s.scalar.setWidth 32
  | .scalused => s.scalused.setWidth 32
  | .msrc => s.msrc.setWidth 32
  | .midx => s.midx.setWidth 32
  | .accLo => s.acc.m.extractLsb' 0 32
  | .accHi => s.acc.m.extractLsb' 32 32
  | .accE => s.acc.e.setWidth 32
  | .nfd => s.nfd
  | .outn => s.outn.setWidth 32
  | .manM c => (manAt s c).m
  | .manE c => (manAt s c).e.setWidth 32
  | .msetM c => (msetAt s c).m
  | .msetE c => (msetAt s c).e.setWidth 32
  | .val i => valAt s i
  | .txbuf i => (txAt s i).setWidth 32
  | .rxbuf i => (rxAt s i).setWidth 32
  | .reg i => (regAt s i).setWidth 32
  | .fd i => fdAt s i
  | .outLo i => (outAt s i).m.extractLsb' 0 32
  | .outHi i => (outAt s i).m.extractLsb' 32 32
  | .outE i => (outAt s i).e.setWidth 32
  | .outFl i => (outAt s i).fl.setWidth 32

/-- The word at offset `o`; an unmapped offset reads 0 (R63). -/
def readWord (s : State) (o : Nat) : Word :=
  match locate o with
  | some l => readLoc s l
  | none => 0

/-- `MemWrite` to a register other than `CMD`: what its "stores" column says; a write to an RO register is ignored
(10_state.md R21). The `CMD` arm only stores: running the operation is `writeCommand`'s. -/
def writeLoc (w : Word) (s : State) : Loc → State
  | .cmd => { s with cmd := w }
  | .faults => clearFaults w s
  | .cfg => { s with cfg := w &&& 0x0000000F }
  | .defscalar => { s with defscalar := w.setWidth 16 }
  | .devaddr => { s with devaddr := w }
  | .func => { s with func := w }
  | .regaddr => { s with regaddr := w }
  | .count => { s with count := w }
  | .nval => { s with nval := w }
  | .txlen => { s with txlen := w }
  | .rxlen => { s with rxlen := w }
  | .regn => { s with regn := w }
  | .nfd => { s with nfd := w }
  | .manM c => { s with man := put s.man c ⟨w, (manAt s c).e⟩ }
  | .manE c => { s with man := put s.man c ⟨(manAt s c).m, w.setWidth 4⟩ }
  | .val i => { s with val := put s.val i w }
  | .txbuf i => { s with txbuf := put s.txbuf i (w.setWidth 8) }
  | .rxbuf i => { s with rxbuf := put s.rxbuf i (w.setWidth 8) }
  | .reg i => { s with reg := put s.reg i (w.setWidth 16) }
  | .fd i => { s with fd := put s.fd i w }
  | .status => s
  | .err => s
  | .crc => s
  | .waddr => s
  | .explen => s
  | .rkind => s
  | .rflags => s
  | .rdev => s
  | .rfunc => s
  | .rcode => s
  | .rmsg => s
  | .rbc => s
  | .rwaddr => s
  | .rwval => s
  | .scalar => s
  | .scalused => s
  | .msrc => s
  | .midx => s
  | .accLo => s
  | .accHi => s
  | .accE => s
  | .outn => s
  | .msetM _ => s
  | .msetE _ => s
  | .outLo _ => s
  | .outHi _ => s
  | .outE _ => s
  | .outFl _ => s

/-- A store to offset `o`; a write to an unmapped offset is ignored (R63). -/
def writeWord (s : State) (o : Nat) (w : Word) : State :=
  match locate o with
  | some l => writeLoc w s l
  | none => s

/-- The word offset of a bus access, where the block has one: width 4, aligned, inside 0x000 to 0x4FF (R61 to R63). -/
def accessOffset (s : State) (addr n : Nat) : Option Nat :=
  if n = 4 ∧ s.params.base ≤ addr ∧ (addr - s.params.base) % 4 = 0 ∧
      (addr - s.params.base) / 4 < Config.spaceWords then
    some ((addr - s.params.base) / 4)
  else none

/-- The bus address of word offset `o` (R61). -/
def busAddress (s : State) (o : Nat) : Nat := s.params.base + 4 * o

end Sys2Proof.Machine
end

