-- ==== Sys2Proof/Machine/HostAccess.lean ====
section
/-! DEFINITION. The host's actions (10_state.md R22, 20_memory.md R62, R63, R67, 30_encoding.md R81, R103). -/

namespace Sys2Proof.Machine

/-- A host write of `w` to `CMD`: stores `w` and runs the operation it encodes; an illegal word raises
`IllegalCommand` and changes nothing else (10_state.md R24, 30_encoding.md R81, 60_exceptions.md R251). -/
def writeCommand (w : Word) (s : State) : Host.Outcome State Fault Refusal :=
  match decodeCommand s.params.hasFilter w with
  | .ok i => exec i { s with cmd := w }
  | .error _ => .next (raise .illegalCommand { s with cmd := w })

/-- `MemWrite(addr, n, w)`. An access that is none of this block has no step (R63). -/
def hostWrite (addr n : Nat) (w : Word) (s : State) : Host.Outcome State Fault Refusal :=
  match accessOffset s addr n with
  | some o => if o = 0 then writeCommand w s else .next (writeWord s o w)
  | none => .fault .hostStuck

/-- `MemRead(addr, n)`: the value goes to the host (`rdata`), and nothing else happens (R67). -/
def hostRead (addr n : Nat) (s : State) : Host.Outcome State Fault Refusal :=
  match accessOffset s addr n with
  | some o => .next { s with rdata := readWord s o }
  | none => .fault .hostStuck

/-- A `LOADTX` or `LOADRX` line: a frame is the instruction it decodes to; any other bytes are loaded just so
(41_frame_builder.md R139, 70_reset_and_hazards.md R295). -/
def hostLoad (b : BufSel) (bytes : List Byte) (s : State) : Host.Outcome State Fault Refusal :=
  match decodeFrame b bytes with
  | .ok i => exec i s
  | .error _ => loadFrame b bytes s

/-- One host action. -/
def act (a : HostAction) (s : State) : Host.Outcome State Fault Refusal :=
  match a with
  | .read addr n => hostRead addr n s
  | .write addr n w => hostWrite addr n w s
  | .load b bytes => hostLoad b bytes s

/-- The pc "advances by one after every action" (R22). -/
def advance (s : State) : State := { s with pc := s.pc + 1 }

/-- The host's next action; when the list has ended, the block is idle and holds its state (R22, 60_exceptions.md
R268). -/
def hostStep (s : State) : Host.Outcome State Fault Refusal :=
  match s.prog[s.pc]? with
  | some a => act a (advance s)
  | none => .next s

/-- The host action that presents an encoded instruction to the block. -/
def actionOf (s : State) : Image → HostAction
  | .command w => .write (busAddress s 0) 4 w
  | .frame b bytes => .load b bytes

/-- `a` becomes the host's next action, before the ones it still had. -/
def withAction (a : HostAction) (s : State) : State :=
  { s with prog := s.prog.take s.pc ++ a :: s.prog.drop s.pc, pc := min s.pc s.prog.length }

end Sys2Proof.Machine
end

