-- ==== Sys2Proof/Machine/Step.lean ====
section
/-! DEFINITION. One step of the machine is the host's next action (10_state.md R22); and where the next instruction is
taken from. -/

namespace Sys2Proof.Machine

def step (s : State) : Host.Outcome State Fault Refusal := hostStep s

/-- A word of the opcode table as the host's next action: a command word is written to `CMD`, a frame is loaded into
its buffer (log 10). -/
def State.withFetchWord (s : State) (nbits w : Nat) : State := withAction (actionOf s (tableImage nbits w)) s

end Sys2Proof.Machine
end

