-- ==== Sys2Proof/Machine/Pseudo.lean ====
section
/-! DEFINITION. The pseudo-operations of 30_encoding.md R103, each the list of host actions it abbreviates, and the
listing form of R102. -/

namespace Sys2Proof.Machine

inductive Pseudo where
  | crc16 (sel : BufSel) (len : BitVec 9)
  | readreq (dev fn logical count : Word)
  | write1req (dev logical value : Word)
  | loadrx (bytes : List Byte)
  | loadtx (bytes : List Byte)
  | faultclr
  deriving DecidableEq, Repr

/-- `WR name, value` at word offset `o` (R102). -/
def wr (base o : Nat) (w : Word) : HostAction := .write (base + 4 * o) 4 w

/-- An operation in a listing: the host writes its command word to `CMD` (R102); a frame is its load line. -/
def operation (base : Nat) (i : Instr) : HostAction :=
  match encode i with
  | .command w => wr base 0 w
  | .frame b bytes => .load b bytes

/-- `WR NAME[k], b0; WR NAME[k+1], b1; ...`, the array's element `k` at offset `o + k`. -/
def wrBytes (base o : Nat) : List Byte → List HostAction
  | [] => []
  | b :: bs => wr base o (b.setWidth 32) :: wrBytes base (o + 1) bs

/-- The expansions of R103, with the offsets of 20_memory.md R61. -/
def expand (base : Nat) : Pseudo → List HostAction
  | .crc16 sel len => [operation base (.crcbuf sel len)]
  | .readreq dev fn logical count =>
    [wr base 0x008 dev, wr base 0x009 fn, wr base 0x00A logical, wr base 0x00B count, wr base 0x00C 0,
      operation base .build]
  | .write1req dev logical value =>
    [wr base 0x008 dev, wr base 0x009 6, wr base 0x00A logical, wr base 0x080 value, wr base 0x00C 1,
      operation base .build]
  | .loadrx bytes => wrBytes base 0x200 bytes ++ [wr base 0x010 (BitVec.ofNat 32 bytes.length)]
  | .loadtx bytes => wrBytes base 0x100 bytes ++ [wr base 0x00E (BitVec.ofNat 32 bytes.length)]
  | .faultclr => [wr base 0x003 0xFFFF]

/-- The actions of a list performed in order, stopping at the first that has no step. -/
def actAll : List HostAction → State → Host.Outcome State Fault Refusal
  | [], s => .next s
  | a :: as, s =>
    match act a s with
    | .next t => actAll as t
    | .fault r => .fault r
    | .refused r => .refused r

end Sys2Proof.Machine
end

