-- ==== Sys2Proof/Safety.lean ====
section
/-! DEFINITION. What holds in every state of the block, and what an operation may write. -/

namespace Sys2Proof.Machine

/-- The values `ERR` takes: 0x00 and the codes of 60_exceptions.md R250; "All other values of `ERR` ... never occur". -/
def errCodes : List (BitVec 8) :=
  [0x00, 0x01, 0x02, 0x03, 0x10, 0x11, 0x12, 0x13, 0x14, 0x20, 0x30, 0x31, 0x32]

/-- The values `RMSG` takes (42_frame_parser.md R158). -/
def msgIndices : List (BitVec 4) := [0, 1, 2, 3, 4, 5, 6, 8, 10, 11]

/-- The invariant of the block. Reserved bits read 0 and `BUSY` reads 0 (10_state.md R25, R27, R28); `ERR`, `RKIND`,
`RMSG`, `MSRC`, `MIDX`, `OUTN` hold only the values the spec gives them (R250, R37, R158, R42, R46); a set is resolved
exactly when `MSRC` is not 0, and a decoded block has one (R25, R42); exponents stay in their bounds, so 5 bits never
overflow (43_scaling.md R181 d); the parameters are as 20_memory.md R61 and 43_scaling.md R186 require. -/
structure State.Inv (s : State) : Prop where
  statusReserved : s.status &&& 0xFFFFFFC1#32 = 0#32
  faultsReserved : s.faults &&& 0xFE00#16 = 0#16
  cfgReserved : s.cfg &&& 0xFFFFFFF0#32 = 0#32
  err : s.err ∈ errCodes
  rkind : s.rkind.toNat ≤ 4
  rmsg : s.rmsg ∈ msgIndices
  msrc : s.msrc.toNat ≤ 3
  midx : s.midx.toNat ≤ 6
  outn : s.outn.toNat ≤ 64
  resolved : s.msetv = true ↔ s.msrc ≠ 0#3
  decoded : s.outv = true → s.msetv = true
  accE : s.acc.e.toNat ≤ 15
  outE : ∀ i, i < s.outn.toNat → (outAt s i).e.toNat ≤ 16
  base : s.params.base % 4 = 0
  rom3 : (elem ⟨⟨0, 0⟩, ⟨0, 0⟩, ⟨0, 0⟩, ⟨0, 0⟩⟩ s.params.mtab 3).power = ⟨1, 1⟩

/-- The words an instruction may write besides `ERR`, `FAULTS` and `STATUS`: the "Writes" column of 10_state.md R48, and
for a frame the buffer it is loaded into (30_encoding.md R103). -/
def mayWrite (i : Instr) (l : Loc) : Bool :=
  match i with
  | .nop => false
  | .srst =>
    match l with
    | .cmd => false
    | .val _ => false
    | .txbuf _ => false
    | .rxbuf _ => false
    | .reg _ => false
    | .fd _ => false
    | .outLo _ => false
    | .outHi _ => false
    | .outE _ => false
    | .outFl _ => false
    | _ => true
  | .crcinit => l = .crc
  | .crcbyte _ => l = .crc
  | .crcbuf _ _ => l = .crc
  | .crcapp =>
    match l with
    | .crc => true
    | .txlen => true
    | .txbuf _ => true
    | _ => false
  | .crcvfy _ => l = .crc
  | .addrconv => l = .waddr
  | .build =>
    match l with
    | .waddr => true
    | .txlen => true
    | .crc => true
    | .txbuf _ => true
    | _ => false
  | .explen => l = .explen
  | .parse =>
    match l with
    | .crc => true
    | .rkind => true
    | .rflags => true
    | .rdev => true
    | .rfunc => true
    | .rcode => true
    | .rmsg => true
    | .rbc => true
    | .rwaddr => true
    | .rwval => true
    | .regn => true
    | .reg _ => true
    | _ => false
  | .scalset _ => l = .scalar
  | .scalld _ => l = .scalar
  | .scalclr => false
  | .resolve =>
    match l with
    | .scalused => true
    | .msrc => true
    | .midx => true
    | .msetM _ => true
    | .msetE _ => true
    | _ => false
  | .scale16 _ _ => l = .accLo ∨ l = .accHi ∨ l = .accE
  | .scale32 _ _ => l = .accLo ∨ l = .accHi ∨ l = .accE
  | .p3fix => l = .accE
  | .decode =>
    match l with
    | .scalused => true
    | .msrc => true
    | .midx => true
    | .msetM _ => true
    | .msetE _ => true
    | .outn => true
    | .outLo _ => true
    | .outHi _ => true
    | .outE _ => true
    | .outFl _ => true
    | _ => false
  | .filter =>
    match l with
    | .outLo _ => true
    | .outHi _ => true
    | .outE _ => true
    | .outFl _ => true
    | _ => false
  | .reqReadHolding _ _ _ _ => isTx l
  | .reqReadInput _ _ _ _ => isTx l
  | .reqWriteSingle _ _ _ _ => isTx l
  | .reqWriteMultiple _ _ _ _ => isTx l
  | .rspReadHolding _ _ _ => isRx l
  | .rspReadInput _ _ _ => isRx l
  | .rspWriteSingle _ _ _ _ => isRx l
  | .rspWriteMultiple _ _ _ _ => isRx l
  | .rspError _ _ _ _ => isRx l
where
  isTx : Loc → Bool
    | .txlen => true
    | .txbuf _ => true
    | _ => false
  isRx : Loc → Bool
    | .rxlen => true
    | .rxbuf _ => true
    | _ => false

/-- The bits of `STATUS` an instruction may change (10_state.md R25, R48). -/
def statusBits (i : Instr) : List Nat :=
  match i with
  | .nop => []
  | .srst => List.range 32
  | .crcinit => []
  | .crcbyte _ => []
  | .crcbuf _ _ => []
  | .crcapp => []
  | .crcvfy _ => []
  | .addrconv => []
  | .build => []
  | .explen => []
  | .parse => []
  | .scalset _ => [1]
  | .scalld _ => [1]
  | .scalclr => [1]
  | .resolve => [2, 5]
  | .scale16 _ _ => [3]
  | .scale32 _ _ => [3]
  | .p3fix => []
  | .decode => [2, 4, 5]
  | .filter => []
  | .reqReadHolding _ _ _ _ => []
  | .reqReadInput _ _ _ _ => []
  | .reqWriteSingle _ _ _ _ => []
  | .reqWriteMultiple _ _ _ _ => []
  | .rspReadHolding _ _ _ => []
  | .rspReadInput _ _ _ => []
  | .rspWriteSingle _ _ _ _ => []
  | .rspWriteMultiple _ _ _ _ => []
  | .rspError _ _ _ _ => []

/-- The values `ERR` may hold after an operation (60_exceptions.md R250, "Raised by", and R257); after a frame load `ERR`
is what it was. -/
def resultCodes (i : Instr) (before : BitVec 8) : List (BitVec 8) :=
  match i with
  | .nop => [0x00]
  | .srst => [0x00]
  | .crcinit => [0x00]
  | .crcbyte _ => [0x00]
  | .crcbuf _ _ => [0x00, 0x03]
  | .crcapp => [0x00, 0x03]
  | .crcvfy _ => [0x00, 0x03, 0x11]
  | .addrconv => [0x00, 0x02]
  | .build => [0x00, 0x02]
  | .explen => [0x00, 0x03]
  | .parse => [0x00, 0x03, 0x10, 0x11, 0x12, 0x13, 0x14, 0x20]
  | .scalset _ => [0x00]
  | .scalld _ => [0x00, 0x03, 0x30]
  | .scalclr => [0x00]
  | .resolve => [0x00]
  | .scale16 _ _ => [0x00, 0x03, 0x32, 0x30]
  | .scale32 _ _ => [0x00, 0x03, 0x32, 0x30]
  | .p3fix => [0x00, 0x32]
  | .decode => [0x00, 0x03, 0x30, 0x31]
  | .filter => [0x00, 0x03, 0x32, 0x30]
  | .reqReadHolding _ _ _ _ => [before]
  | .reqReadInput _ _ _ _ => [before]
  | .reqWriteSingle _ _ _ _ => [before]
  | .reqWriteMultiple _ _ _ _ => [before]
  | .rspReadHolding _ _ _ => [before]
  | .rspReadInput _ _ _ => [before]
  | .rspWriteSingle _ _ _ _ => [before]
  | .rspWriteMultiple _ _ _ _ => [before]
  | .rspError _ _ _ _ => [before]

/-- An operation of the block, as against a frame load. -/
def isCommand (i : Instr) : Bool :=
  match encode i with
  | .command _ => true
  | .frame _ _ => false

/-- The host's access is one the block has a step for (20_memory.md R62, R63); a load line fits its buffer. -/
def HostAction.legal (s : State) : HostAction → Bool
  | .read addr n => (accessOffset s addr n).isSome
  | .write addr n _ => (accessOffset s addr n).isSome
  | .load _ bytes => decide (bytes.length ≤ Config.bufSize)

end Sys2Proof.Machine
end

