-- ==== Sys2Proof/Certificates/Slice0/Obligations.lean ====
section
/-! DEFINITION. The statements for the provers. Rule numbers are spec/'s. -/

open Sys2Proof Sys2Proof.Machine

/-! ### Encoding -/

/-- Every well-formed instruction, command word or frame, decodes from its encoding, with every operand at every value
(R80 to R82, R89, R91 to R98). -/
def Obligations.DecodeOfEncodeIsTheInstruction : Prop :=
  ∀ (hf : Bool) (i : Instr), i.wf hf = true → decodeImage hf (encode i) = .ok i

/-- Each image has one meaning: an instruction the decoder reads encodes back to the very word or bytes, so no
reserved bit was dropped, and it is well formed. -/
def Obligations.EncodeOfDecodeIsTheImage : Prop :=
  ∀ (hf : Bool) (im : Image) (i : Instr), decodeImage hf im = .ok i → encode i = im ∧ i.wf hf = true

/-- Words and bytes written out in the spec, at least one for each row of the opcode table, decode to what they stand for
(R113 to R117, R131, R132, R140, R150, R183, R189, R190, R192, R194, R92 to R98 and 95_test_vectors.md). -/
def Obligations.WordsOfTheSpecDecode : Prop :=
  decodeCommand true 0x00000000#32 = .ok .nop ∧
  decodeCommand true 0x01000000#32 = .ok .srst ∧
  decodeCommand true 0x10000000#32 = .ok .crcinit ∧
  decodeCommand true 0x1100006B#32 = .ok (.crcbyte 0x6B) ∧
  decodeCommand true 0x12000006#32 = .ok (.crcbuf .tx 6) ∧
  decodeCommand true 0x12010100#32 = .ok (.crcbuf .rx 256) ∧
  decodeCommand true 0x13000000#32 = .ok .crcapp ∧
  decodeCommand true 0x14010000#32 = .ok (.crcvfy .rx) ∧
  decodeCommand true 0x20000000#32 = .ok .addrconv ∧
  decodeCommand true 0x21000000#32 = .ok .build ∧
  decodeCommand true 0x22000000#32 = .ok .explen ∧
  decodeCommand true 0x30000000#32 = .ok .parse ∧
  decodeCommand true 0x4000FFFF#32 = .ok (.scalset 0xFFFF) ∧
  decodeCommand true 0x41000001#32 = .ok (.scalld 1) ∧
  decodeCommand true 0x42000000#32 = .ok .scalclr ∧
  decodeCommand true 0x43000000#32 = .ok .resolve ∧
  decodeCommand true 0x44000404#32 = .ok (.scale16 4 .frequency) ∧
  decodeCommand true 0x45000004#32 = .ok (.scale32 4 .power) ∧
  decodeCommand true 0x46000000#32 = .ok .p3fix ∧
  decodeCommand true 0x47000000#32 = .ok .decode ∧
  decodeCommand true 0x50000000#32 = .ok .filter ∧
  decodeFrame .tx [0x01, 0x03, 0x0F, 0xA0, 0x00, 0x16, 0xC7, 0x32] = .ok (.reqReadHolding 1 4000 22 0x32C7) ∧
  decodeFrame .tx [0x01, 0x04, 0x75, 0x31, 0x00, 0x02, 0x3A, 0x08] = .ok (.reqReadInput 1 30001 2 0x083A) ∧
  decodeFrame .tx [0x01, 0x06, 0x00, 0x01, 0x00, 0x03, 0x98, 0x0B] = .ok (.reqWriteSingle 1 1 3 0x0B98) ∧
  decodeFrame .tx [0x01, 0x10, 0x00, 0x01, 0x00, 0x02, 0x04, 0x00, 0x0A, 0x01, 0x02, 0x92, 0x30] =
    .ok (.reqWriteMultiple 1 1 [10, 258] 0x3092) ∧
  decodeFrame .rx [0x01, 0x03, 0x04, 0x06, 0xC2, 0x00, 0x05, 0x9B, 0x44] =
    .ok (.rspReadHolding 1 [1730, 5] 0x449B) ∧
  decodeFrame .rx [0x01, 0x04, 0x04, 0x00, 0x01, 0x00, 0x02, 0x2B, 0x85] = .ok (.rspReadInput 1 [1, 2] 0x852B) ∧
  decodeFrame .rx [0x01, 0x06, 0x00, 0x01, 0x00, 0x04, 0xD9, 0xC9] = .ok (.rspWriteSingle 1 1 4 0xC9D9) ∧
  decodeFrame .rx [0x01, 0x10, 0x00, 0x01, 0x00, 0x02, 0x10, 0x08] = .ok (.rspWriteMultiple 1 1 2 0x0810) ∧
  decodeFrame .rx [0x01, 0x83, 0x02, 0xC0, 0xF1] = .ok (.rspError 1 0x83 2 0xF1C0)

/-- The decoder reads a command word exactly where a row of the opcode table selects it and its fields are legal, and no
word is selected by two rows (R81, R104). -/
def Obligations.DecoderAgreesWithTheOpcodeTable : Prop :=
  (∀ w : Word, (∃ i, decodeCommand true w = .ok i) ↔
    ∃ r, r ∈ opcodeRows ∧ w &&& r.mask = r.pattern ∧ fieldsLegal r w = true) ∧
  ∀ (w : Word) (r r' : Row), r ∈ opcodeRows → r' ∈ opcodeRows →
    w &&& r.mask = r.pattern → w &&& r'.mask = r'.pattern → r = r'

/-- R251: a word no row of the table selects with legal fields (or `FILTER` in a block without the filter) sets `ERR`
and `FAULTS.ILLCMD`, stays in `CMD`, and changes nothing else. -/
def Obligations.IllegalWordRaisesIllegalCommand : Prop :=
  ∀ (w : Word) (s : State),
    (¬∃ r, r ∈ opcodeRows ∧ w &&& r.mask = r.pattern ∧ fieldsLegal r w = true ∧
      (r.pattern = 0x50000000#32 → s.params.hasFilter = true)) →
    writeCommand w s = .next { s with cmd := w, err := 0x01, faults := setBit s.faults 0 true }

/-! ### Steps and host accesses -/

/-- A command word written to `CMD`, or a load line of frame bytes, that decodes to `i`: the step is exec of `i`, with
the action counted and the word in `CMD` (R22, R24, R81). Every other action is performed with the action counted, a
write to `CMD` as `writeCommand`. When the list has ended the state is held (R268). The host's list in the state and a
frame as its load line are the model's choice (logs 1 and 5). -/
def Obligations.StepRunsTheDecodedInstruction : Prop :=
  (∀ (s : State) (w : Word) (i : Instr), s.prog[s.pc]? = some (.write s.params.base 4 w) →
    decodeCommand s.params.hasFilter w = .ok i → step s = exec i { s with pc := s.pc + 1, cmd := w }) ∧
  (∀ (s : State) (b : BufSel) (bytes : List Byte) (i : Instr), s.prog[s.pc]? = some (.load b bytes) →
    decodeFrame b bytes = .ok i → step s = exec i { s with pc := s.pc + 1 }) ∧
  (∀ (s : State) (a : HostAction), s.prog[s.pc]? = some a → step s = act a { s with pc := s.pc + 1 }) ∧
  (∀ (s : State) (w : Word), act (.write s.params.base 4 w) s = writeCommand w s) ∧
  ∀ s : State, s.prog.length ≤ s.pc → step s = .next s

/-- The word placed by `withFetchWord` is the one the very next step runs, whatever the state and its program. How it
is placed is the model's choice (log 10). -/
def Obligations.StepRunsThePlacedTableWord : Prop :=
  ∀ (s : State) (nbits w : Nat) (i : Instr), s.params.hasFilter = true → decodeTableWord nbits w = some i →
    step (s.withFetchWord nbits w) =
      exec i { s.withFetchWord nbits w with
        pc := min s.pc s.prog.length + 1
        cmd := if nbits ≤ 8 then s.cmd else BitVec.ofNat 32 w }

/-- R294: every command word in every state has a successor state, which keeps the word in `CMD` and touches neither
the host's list nor the parameters. -/
def Obligations.EveryCommandWordHasASuccessor : Prop :=
  ∀ (w : Word) (s : State), ∃ t, writeCommand w s = .next t ∧ t.cmd = w ∧ t.prog = s.prog ∧ t.pc = s.pc ∧
    t.rdata = s.rdata ∧ t.params = s.params

/-- R63: an access that is not an aligned 32-bit word inside the register space has no step; every other access has
one. -/
def Obligations.HostAccessStuckExactlyOutside : Prop :=
  ∀ (s : State) (addr n : Nat) (w : Word),
    (¬(n = 4 ∧ s.params.base ≤ addr ∧ addr < s.params.base + 4 * 0x500 ∧ (addr - s.params.base) % 4 = 0) →
      act (.write addr n w) s = .fault .hostStuck ∧ act (.read addr n) s = .fault .hostStuck) ∧
    (n = 4 ∧ s.params.base ≤ addr ∧ addr < s.params.base + 4 * 0x500 ∧ (addr - s.params.base) % 4 = 0 →
      (∃ t, act (.write addr n w) s = .next t) ∧ ∃ t, act (.read addr n) s = .next t)

/-- R61, R62, R67: a read returns the register at its offset, zero-extended, for every mapped offset, and does nothing
else. An unmapped offset is HostWriteStoresItsPart's. -/
def Obligations.HostReadReturnsTheWord : Prop :=
  ∀ s : State,
    (∀ o, o < 0x500 → act (.read (s.params.base + 4 * o) 4) s = .next { s with rdata := readWord s o }) ∧
    readWord s 0x000 = s.cmd ∧
    readWord s 0x001 = s.status ∧
    readWord s 0x002 = s.err.setWidth 32 ∧
    readWord s 0x003 = s.faults.setWidth 32 ∧
    readWord s 0x004 = s.cfg ∧
    readWord s 0x005 = s.defscalar.setWidth 32 ∧
    readWord s 0x006 = s.crc.setWidth 32 ∧
    readWord s 0x008 = s.devaddr ∧
    readWord s 0x009 = s.func ∧
    readWord s 0x00A = s.regaddr ∧
    readWord s 0x00B = s.count ∧
    readWord s 0x00C = s.nval ∧
    readWord s 0x00D = s.waddr.setWidth 32 ∧
    readWord s 0x00E = s.txlen ∧
    readWord s 0x00F = s.explen ∧
    readWord s 0x010 = s.rxlen ∧
    readWord s 0x011 = s.rkind.setWidth 32 ∧
    readWord s 0x012 = s.rflags.setWidth 32 ∧
    readWord s 0x013 = s.rdev.setWidth 32 ∧
    readWord s 0x014 = s.rfunc.setWidth 32 ∧
    readWord s 0x015 = s.rcode.setWidth 32 ∧
    readWord s 0x016 = s.rmsg.setWidth 32 ∧
    readWord s 0x017 = s.rbc.setWidth 32 ∧
    readWord s 0x018 = s.regn ∧
    readWord s 0x019 = s.rwaddr.setWidth 32 ∧
    readWord s 0x01A = s.rwval.setWidth 32 ∧
    readWord s 0x020 = s.scalar.setWidth 32 ∧
    readWord s 0x021 = s.scalused.setWidth 32 ∧
    readWord s 0x022 = s.msrc.setWidth 32 ∧
    readWord s 0x023 = s.midx.setWidth 32 ∧
    (readWord s 0x024).toNat = s.acc.m.toNat % 2 ^ 32 ∧
    (readWord s 0x025).toNat = s.acc.m.toNat / 2 ^ 32 ∧
    readWord s 0x026 = s.acc.e.setWidth 32 ∧
    readWord s 0x027 = s.nfd ∧
    readWord s 0x028 = s.outn.setWidth 32 ∧
    (∀ c (h : c < 5), readWord s (0x030 + 2 * c) = s.man[c].m ∧ readWord s (0x031 + 2 * c) = s.man[c].e.setWidth 32) ∧
    (∀ c (h : c < 5),
      readWord s (0x040 + 2 * c) = s.mset[c].m ∧ readWord s (0x041 + 2 * c) = s.mset[c].e.setWidth 32) ∧
    (∀ i (h : i < 123), readWord s (0x080 + i) = s.val[i]) ∧
    (∀ i (h : i < 256), readWord s (0x100 + i) = s.txbuf[i].setWidth 32) ∧
    (∀ i (h : i < 256), readWord s (0x200 + i) = s.rxbuf[i].setWidth 32) ∧
    (∀ i (h : i < 126), readWord s (0x300 + i) = s.reg[i].setWidth 32) ∧
    (∀ i (h : i < 64), readWord s (0x380 + i) = s.fd[i]) ∧
    ∀ i (h : i < 64),
      (readWord s (0x400 + 4 * i)).toNat = s.out[i].m.toNat % 2 ^ 32 ∧
      (readWord s (0x401 + 4 * i)).toNat = s.out[i].m.toNat / 2 ^ 32 ∧
      readWord s (0x402 + 4 * i) = s.out[i].e.setWidth 32 ∧
      readWord s (0x403 + 4 * i) = s.out[i].fl.setWidth 32

/-- R62, R67: a write to an offset other than `CMD` is `writeWord` of that offset (what it stores there is
HostWriteStoresItsPart's and FaultsAreWriteOneToClear's), and it leaves every other word of the register space as it
was. -/
def Obligations.HostWriteTouchesOneWord : Prop :=
  ∀ (s : State) (o : Nat) (w : Word), o ≠ 0 → o < 0x500 →
    act (.write (s.params.base + 4 * o) 4 w) s = .next (writeWord s o w) ∧
    (∀ o', o' ≠ o → readWord (writeWord s o w) o' = readWord s o') ∧
    (writeWord s o w).prog = s.prog ∧ (writeWord s o w).pc = s.pc ∧ (writeWord s o w).rdata = s.rdata ∧
    (writeWord s o w).params = s.params

/-- What a host write leaves in each writable register (R28, R29, R31, R32, R34, R36, R40, R43, R45), and that a
read-only or unmapped word ignores it (R21, R63). -/
def Obligations.HostWriteStoresItsPart : Prop :=
  ∀ (s : State) (w : Word),
    (∀ o, o ∈ [0x008, 0x009, 0x00A, 0x00B, 0x00C, 0x00E, 0x010, 0x018, 0x027] → readWord (writeWord s o w) o = w) ∧
    readWord (writeWord s 0x004 w) 0x004 = w &&& 0x0000000F#32 ∧
    readWord (writeWord s 0x005 w) 0x005 = w &&& 0x0000FFFF#32 ∧
    (∀ c, c < 5 → readWord (writeWord s (0x030 + 2 * c) w) (0x030 + 2 * c) = w) ∧
    (∀ c, c < 5 → readWord (writeWord s (0x031 + 2 * c) w) (0x031 + 2 * c) = w &&& 0x0000000F#32) ∧
    (∀ i, i < 123 → readWord (writeWord s (0x080 + i) w) (0x080 + i) = w) ∧
    (∀ i, i < 256 → readWord (writeWord s (0x100 + i) w) (0x100 + i) = w &&& 0x000000FF#32) ∧
    (∀ i, i < 256 → readWord (writeWord s (0x200 + i) w) (0x200 + i) = w &&& 0x000000FF#32) ∧
    (∀ i, i < 126 → readWord (writeWord s (0x300 + i) w) (0x300 + i) = w &&& 0x0000FFFF#32) ∧
    (∀ i, i < 64 → readWord (writeWord s (0x380 + i) w) (0x380 + i) = w) ∧
    (∀ o, o ∈ [0x001, 0x002, 0x006, 0x00D, 0x00F, 0x011, 0x012, 0x013, 0x014, 0x015, 0x016, 0x017, 0x019, 0x01A, 0x020,
      0x021, 0x022, 0x023, 0x024, 0x025, 0x026, 0x028] → writeWord s o w = s) ∧
    (∀ o, 0x040 ≤ o ∧ o < 0x04A ∨ 0x400 ≤ o ∧ o < 0x500 → writeWord s o w = s) ∧
    ∀ o, o = 0x007 ∨ 0x01B ≤ o ∧ o < 0x020 ∨ 0x029 ≤ o ∧ o < 0x030 ∨ 0x03A ≤ o ∧ o < 0x040 ∨ 0x04A ≤ o ∧ o < 0x080 ∨
      0x0FB ≤ o ∧ o < 0x100 ∨ 0x37E ≤ o ∧ o < 0x380 ∨ 0x3C0 ≤ o ∧ o < 0x400 → writeWord s o w = s ∧ readWord s o = 0#32

/-- R27: a write of `w` to `FAULTS` clears every bit `i` with `w[i] = 1` and leaves the others. -/
def Obligations.FaultsAreWriteOneToClear : Prop :=
  ∀ (s : State) (w : Word),
    act (.write (s.params.base + 4 * 0x003) 4 w) s = .next (writeWord s 0x003 w) ∧
    (∀ j, j < 16 → (writeWord s 0x003 w).faults.getLsbD j = (s.faults.getLsbD j && !w.getLsbD j)) ∧
    { writeWord s 0x003 w with faults := s.faults } = s

/-- R61: no register or array element has two offsets, so no access covers two elements. -/
def Obligations.RegisterMapIsOneToOne : Prop :=
  ∀ (o o' : Nat) (l : Loc), locate o = some l → locate o' = some l → o = o'

/-- R103: a `LOADRX` or `LOADTX` line is the bus writes it abbreviates, one byte a word, then the length. That a
line is also one action is the model's choice (log 5). -/
def Obligations.LoadLineIsItsBusWrites : Prop :=
  ∀ (s : State) (bytes : List Byte), bytes.length ≤ 256 →
    actAll (expand s.params.base (.loadrx bytes)) s = act (.load .rx bytes) s ∧
    actAll (expand s.params.base (.loadtx bytes)) s = act (.load .tx bytes) s

/-! ### Reset and invariants -/

/-- R50: the scalar registers, `MAN` and `MSET` after reset. -/
def Obligations.ResetLeavesTheStatedValues : Prop :=
  let s := State.reset
  s.cmd = 0#32 ∧ s.status = 0#32 ∧ s.err = 0x00#8 ∧ s.faults = 0#16 ∧ s.cfg = 0x00000003#32 ∧ s.defscalar = 0#16 ∧
  s.crc = 0xFFFF#16 ∧ s.devaddr = 0#32 ∧ s.func = 0#32 ∧ s.regaddr = 0#32 ∧ s.count = 0#32 ∧ s.nval = 0#32 ∧
  s.waddr = 0#16 ∧ s.txlen = 0#32 ∧ s.explen = 0#32 ∧ s.rxlen = 0#32 ∧ s.rkind = 0#3 ∧ s.rflags = 0#4 ∧ s.rdev = 0#8 ∧
  s.rfunc = 0#8 ∧ s.rcode = 0#8 ∧ s.rmsg = 0#4 ∧ s.rbc = 0#8 ∧ s.rwaddr = 0#16 ∧ s.rwval = 0#16 ∧ s.regn = 0#32 ∧
  s.scalar = 0#16 ∧ s.scalused = 0#16 ∧ s.msrc = 0#3 ∧ s.midx = 0#3 ∧ s.acc = ⟨0, 0⟩ ∧ s.nfd = 0#32 ∧ s.outn = 0#7 ∧
  ∀ c, c < 5 → manAt s c = ⟨1, 0⟩ ∧ msetAt s c = ⟨0, 0⟩

/-- R236, R281: `SRST` leaves the reset state but for `CMD`, the arrays, and what is not the block's (the host's list,
its last read, the parameters). -/
def Obligations.SoftResetIsResetButForCmdAndArrays : Prop :=
  encode .srst = .command 0x01000000#32 ∧
  ∀ s : State, exec .srst s = .next { State.reset with
    cmd := s.cmd, val := s.val, txbuf := s.txbuf, rxbuf := s.rxbuf, reg := s.reg, fd := s.fd, out := s.out
    prog := s.prog, pc := s.pc, rdata := s.rdata, params := s.params }

/-- The invariant holds after reset. `BASE` 0 is the model's choice (log 3). -/
def Obligations.ResetMeetsTheInvariant : Prop := State.reset.Inv

/-- Every step keeps the invariant: reserved bits and `BUSY` read 0, the coded registers hold only the codes the spec
gives them, `OUTN` stays within `OUT`, no exponent overflows (R25, R27, R28, R37, R42, R46, R158, R181, R250). -/
def Obligations.StepKeepsTheInvariant : Prop :=
  ∀ s t : State, s.Inv → step s = .next t → t.Inv

/-! ### Whole-machine rules -/

/-- R48: an instruction changes no register outside its "Writes" column (`ERR` and `FAULTS` apart), no `STATUS` bit
outside its own, and nothing of the host's list, its last read or the parameters. For a frame
the list is its buffer and the length of that (the model's choice, log 5). -/
def Obligations.ExecWritesOnlyItsListedRegisters : Prop :=
  ∀ (i : Instr) (s t : State), exec i s = .next t →
    (∀ (o : Nat) (l : Loc), locate o = some l → l ≠ .err → l ≠ .faults → l ≠ .status → mayWrite i l = false →
      readWord t o = readWord s o) ∧
    (∀ j, j ∉ statusBits i → t.status.getLsbD j = s.status.getLsbD j) ∧
    t.prog = s.prog ∧ t.pc = s.pc ∧ t.rdata = s.rdata ∧ t.params = s.params

/-- R27: an operation only ever sets bits of `FAULTS`; only `SRST` (and the host, and reset) clears them. -/
def Obligations.FaultBitsAreSticky : Prop :=
  ∀ (i : Instr) (s t : State) (j : Nat), i ≠ .srst → exec i s = .next t → s.faults.getLsbD j = true →
    t.faults.getLsbD j = true

/-- R255, R257: an operation ends with `ERR` 0 and bits 0 to 7 of `FAULTS` as they were, or with one code of R250 and
exactly that code's bit set. -/
def Obligations.ResultCodeSetsExactlyItsFaultBit : Prop :=
  ∀ (i : Instr) (s t : State), isCommand i = true → i ≠ .srst → exec i s = .next t →
    (t.err = 0x00#8 ∧ ∀ j, j < 8 → t.faults.getLsbD j = s.faults.getLsbD j) ∨
    ∃ e : ErrCode, t.err = codeOf e ∧ t.faults = setBit s.faults (faultBit e) true

/-- R250: each operation ends with one of the result codes the table gives it. After a frame row `ERR` is what it was:
that clause is the model's choice (log 5), which executes a frame row as the listing line of R103, whose bus writes only
store (R67). -/
def Obligations.OperationsRaiseOnlyTheirCodes : Prop :=
  ∀ (i : Instr) (s t : State), exec i s = .next t → t.err ∈ resultCodes i s.err

/-- R187: the default set `MDEF` is never selected: no instruction's outcome depends on it, and `MSRC` is not made 4. -/
def Obligations.DefaultSetIsNeverSelected : Prop :=
  ∀ (i : Instr) (s t : State) (m : Vector Mult 5), exec i s = .next t →
    exec i { s with params := { s.params with mdef := m } } = .next { t with params := { t.params with mdef := m } } ∧
    (t.msrc = 4#3 → s.msrc = 4#3)

/-! ### System and CRC operations -/

/-- R235. -/
def Obligations.NopOnlyClearsErr : Prop :=
  encode .nop = .command 0x00000000#32 ∧ ∀ s : State, exec .nop s = .next { s with err := 0x00 }

/-- R113. -/
def Obligations.CrcinitLoadsTheInitialValue : Prop :=
  encode .crcinit = .command 0x10000000#32 ∧
  ∀ s : State, exec .crcinit s = .next { s with crc := 0xFFFF, err := 0x00 }

/-- R111, the trace of one byte: after the XOR, then after each of the eight iterations of R110. -/
def Obligations.CrcByteTrace : Prop :=
  (0xFFFF#16 ^^^ (0x01#8).setWidth 16 = 0xFFFE#16) ∧
  ((List.range 9).map fun k => Nat.repeat crcBit k 0xFFFE#16) =
    [0xFFFE#16, 0x7FFF#16, 0x9FFE#16, 0x4FFF#16, 0x87FE#16, 0x43FF#16, 0x81FE#16, 0x40FF#16, 0x807E#16] ∧
  crcByte 0xFFFF#16 0x01#8 = 0x807E#16

/-- R114: `CRCBYTE` continues from whatever `CRC` holds; its three examples. -/
def Obligations.CrcbyteContinuesTheRunningCrc : Prop :=
  (∀ b : BitVec 8, encode (.crcbyte b) = .command (0x11000000#32 ||| b.setWidth 32)) ∧
  (∀ (s : State) (b : BitVec 8), exec (.crcbyte b) s = .next { s with crc := crcByte s.crc b, err := 0x00 }) ∧
  crcByte 0xFFFF#16 0x01#8 = 0x807E#16 ∧ crcByte 0xFFFF#16 0x00#8 = 0x40BF#16 ∧ crcByte 0xFFFF#16 0xFF#8 = 0x00FF#16

/-- R118: the fold law, and that a byte sequence closed by its CRC has CRC 0. -/
def Obligations.CrcOfAClosedSequenceIsZero : Prop :=
  crc16 [] = 0xFFFF#16 ∧ (∀ a b : List Byte, crc16 (a ++ b) = b.foldl crcByte (crc16 a)) ∧
  ∀ a : List Byte, crc16 (a ++ le16 (crc16 a)) = 0x0000#16

/-- R115, every outcome. -/
def Obligations.CrcbufOfAPrefix : Prop :=
  crc16 [] = 0xFFFF#16 ∧ crc16 [0x01, 0x03, 0x0F, 0xA0, 0x00, 0x16] = 0x32C7#16 ∧
  ∀ (s : State) (sel : BufSel) (len : BitVec 9),
    encode (.crcbuf sel len) =
      .command (0x12000000#32 ||| (if sel = .rx then 0x00010000#32 else 0#32) ||| len.setWidth 32) ∧
    (lenOf s sel ≤ 256 ∧ len.toNat ≤ lenOf s sel →
      exec (.crcbuf sel len) s = .next { s with crc := crc16 (firstN (bufOf s sel) len.toNat), err := 0x00 }) ∧
    (256 < lenOf s sel ∨ lenOf s sel < len.toNat →
      exec (.crcbuf sel len) s = .next { s with err := 0x03, faults := setBit s.faults 1 true })

/-- R116: `CRCAPP` closes the bytes in `TXBUF` with their CRC and changes no other byte or register. -/
def Obligations.CrcappClosesTheFrame : Prop :=
  encode .crcapp = .command 0x13000000#32 ∧
  crc16 [0x11, 0x03, 0x00, 0x6B, 0x00, 0x03] = 0x8776#16 ∧
  ∀ s : State,
    (s.txlen.toNat ≤ 254 → ∃ t, exec .crcapp s = .next t ∧ t.txlen.toNat = s.txlen.toNat + 2 ∧
      firstN t.txbuf (s.txlen.toNat + 2) =
        firstN s.txbuf s.txlen.toNat ++ [lo8 (crc16 (firstN s.txbuf s.txlen.toNat)),
          hi8 (crc16 (firstN s.txbuf s.txlen.toNat))] ∧
      (∀ k, k ≠ s.txlen.toNat → k ≠ s.txlen.toNat + 1 → txAt t k = txAt s k) ∧
      { t with txbuf := s.txbuf, txlen := s.txlen } =
        { s with crc := crc16 (firstN s.txbuf s.txlen.toNat), err := 0x00 }) ∧
    (254 < s.txlen.toNat → exec .crcapp s = .next { s with err := 0x03, faults := setBit s.faults 1 true })

/-- R117: `CRCVFY` passes exactly when the bytes are closed by the CRC of all but the last two; every outcome. -/
def Obligations.CrcvfyChecksTheFrameInvariant : Prop :=
  encode (.crcvfy .tx) = .command 0x14000000#32 ∧ encode (.crcvfy .rx) = .command 0x14010000#32 ∧
  crcGood [0xFF, 0xFF] = true ∧ crcGood [0x01, 0x83, 0x02, 0xC0, 0xF1] = true ∧
  crcGood [0x01, 0x83, 0x02, 0xC0, 0xF0] = false ∧
  ∀ (s : State) (sel : BufSel),
    (2 ≤ lenOf s sel ∧ lenOf s sel ≤ 256 →
      exec (.crcvfy sel) s = .next (
        if crcGood (firstN (bufOf s sel) (lenOf s sel)) = true then
          { s with crc := crc16 (firstN (bufOf s sel) (lenOf s sel - 2)), err := 0x00 }
        else
          { s with
            crc := crc16 (firstN (bufOf s sel) (lenOf s sel - 2)), err := 0x11, faults := setBit s.faults 3 true })) ∧
    (256 < lenOf s sel ∨ lenOf s sel < 2 →
      exec (.crcvfy sel) s = .next { s with err := 0x03, faults := setBit s.faults 1 true })

/-- The round trip of R117 and S1: after `CRCAPP`, and after any `BUILD` that ends with `ERR` 0, `CRCVFY TX` ends with
`ERR` 0 and the same `CRC`. -/
def Obligations.ClosedFramesVerify : Prop :=
  ∀ (i : Instr) (s t : State), i = .crcapp ∨ i = .build → exec i s = .next t → t.err = 0x00#8 →
    exec (.crcvfy .tx) t = .next t

/-! ### Frame builder -/

/-- R131 with R130. -/
def Obligations.AddrconvConvertsTheLogicalAddress : Prop :=
  encode .addrconv = .command 0x20000000#32 ∧
  ∀ s : State,
    (s.regaddr.toNat < 40001 →
      exec .addrconv s = .next { s with waddr := BitVec.ofNat 16 s.regaddr.toNat, err := 0x00 }) ∧
    (40001 ≤ s.regaddr.toNat ∧ s.regaddr.toNat ≤ 105536 →
      exec .addrconv s = .next { s with waddr := BitVec.ofNat 16 (s.regaddr.toNat - 40001), err := 0x00 }) ∧
    (105536 < s.regaddr.toNat →
      exec .addrconv s = .next { s with err := 0x02, faults := setBit s.faults 2 true })

/-- R136, R137: `BUILD` rejects exactly the eight listed conditions, and then leaves no frame and nothing else. -/
def Obligations.BuildRejectsExactlyTheMalformedInputs : Prop :=
  ∀ s : State,
    let f := s.func.toNat
    let n := s.count.toNat
    let k := s.nval.toNat
    let bad : Prop :=
      (s.devaddr.toNat < 1 ∨ 247 < s.devaddr.toNat) ∨ ¬(f = 3 ∨ f = 4 ∨ f = 6 ∨ f = 16) ∨ 105536 < s.regaddr.toNat ∨
      (f = 3 ∨ f = 4) ∧ (n < 1 ∨ 125 < n) ∨ f = 16 ∧ (n < 1 ∨ 123 < n) ∨ (f = 6 ∨ f = 16) ∧ 123 < k ∨
      f = 16 ∧ k ≠ 0 ∧ k ≠ n ∨ f = 6 ∧ 1 ≤ k ∧ 0xFFFF < (valAt s 0).toNat ∨
      f = 16 ∧ k = n ∧ ∃ j, j < n ∧ 0xFFFF < (valAt s j).toNat
    (bad → exec .build s = .next { s with txlen := 0, err := 0x02, faults := setBit s.faults 2 true }) ∧
    (¬bad → ∃ t, exec .build s = .next t ∧ t.err = 0x00#8 ∧ t.faults = s.faults)

/-- R132 to R135: the frame a successful `BUILD` leaves in `TXBUF` is the request of its function, with the operands
in its fields and the CRC of `CRC`. -/
def Obligations.BuiltFrameDecodesToItsRequest : Prop :=
  ∀ s t : State, exec .build s = .next t → t.err = 0x00#8 →
    let dev : Byte := s.devaddr.setWidth 8
    let w : Half := BitVec.ofNat 16 (if 40001 ≤ s.regaddr.toNat then s.regaddr.toNat - 40001 else s.regaddr.toNat)
    decodeFrame .tx (firstN t.txbuf t.txlen.toNat) = .ok (
      if s.func.toNat = 3 then .reqReadHolding dev w (s.count.setWidth 16) t.crc
      else if s.func.toNat = 4 then .reqReadInput dev w (s.count.setWidth 16) t.crc
      else if s.func.toNat = 6 then
        .reqWriteSingle dev w (if s.nval.toNat = 0 then 0 else (valAt s 0).setWidth 16) t.crc
      else
        .reqWriteMultiple dev w ((List.range s.count.toNat).map fun j =>
          if s.nval.toNat = 0 then 0 else (valAt s j).setWidth 16) t.crc)

/-- R138: after a successful `BUILD`: the length, the address and function bytes, the wire address, and CRC 0 over the
whole frame; bytes beyond the frame and every register not written are as before (R132). -/
def Obligations.BuildPostconditions : Prop :=
  ∀ s t : State, exec .build s = .next t → t.err = 0x00#8 →
    t.txlen.toNat = (if s.func.toNat = 16 then 9 + 2 * s.count.toNat else 8) ∧
    (txAt t 0).toNat = s.devaddr.toNat ∧ (txAt t 1).toNat = s.func.toNat ∧ txHalf t 2 = t.waddr ∧
    t.waddr.toNat = (if 40001 ≤ s.regaddr.toNat then s.regaddr.toNat - 40001 else s.regaddr.toNat) ∧
    frombe16 (txAt t (t.txlen.toNat - 1)) (txAt t (t.txlen.toNat - 2)) = t.crc ∧
    t.crc = crc16 (firstN t.txbuf (t.txlen.toNat - 2)) ∧
    crc16 (firstN t.txbuf t.txlen.toNat) = 0x0000#16 ∧
    (∃ u, exec (.crcvfy .tx) t = .next u ∧ u.err = 0x00#8) ∧
    (∀ k, t.txlen.toNat ≤ k → txAt t k = txAt s k) ∧
    { t with txbuf := s.txbuf, txlen := s.txlen, waddr := s.waddr, crc := s.crc } = { s with err := 0x00 }

/-- R140, every outcome. -/
def Obligations.ExplenOfTheRequest : Prop :=
  encode .explen = .command 0x22000000#32 ∧
  ∀ s : State,
    (s.txlen.toNat < 6 → exec .explen s = .next { s with explen := 256, err := 0x00 }) ∧
    (6 ≤ s.txlen.toNat ∧ s.txlen.toNat ≤ 256 ∧ ((txAt s 1).toNat = 3 ∨ (txAt s 1).toNat = 4) →
      exec .explen s = .next { s with
        explen := BitVec.ofNat 32 (5 + 2 * ((txAt s 4).toNat * 256 + (txAt s 5).toNat)), err := 0x00 }) ∧
    (6 ≤ s.txlen.toNat ∧ s.txlen.toNat ≤ 256 ∧ ((txAt s 1).toNat = 6 ∨ (txAt s 1).toNat = 16) →
      exec .explen s = .next { s with explen := 8, err := 0x00 }) ∧
    (6 ≤ s.txlen.toNat ∧ s.txlen.toNat ≤ 256 ∧
        ¬((txAt s 1).toNat = 3 ∨ (txAt s 1).toNat = 4 ∨ (txAt s 1).toNat = 6 ∨ (txAt s 1).toNat = 16) →
      exec .explen s = .next { s with explen := 256, err := 0x00 }) ∧
    (256 < s.txlen.toNat → exec .explen s = .next { s with err := 0x03, faults := setBit s.faults 1 true })

/-! ### Frame parser -/

/-- R151, R164, R252: `PARSE` of a response out of range or of fewer than 3 bytes clears every parser result and
`REGN`, reports the code, and changes nothing else. -/
def Obligations.ParseOfNoReplyClearsTheResults : Prop :=
  ∀ s : State,
    let cleared : State := { s with
      rkind := 0, rflags := 0, rdev := 0, rfunc := 0, rcode := 0, rmsg := 0, rbc := 0, rwaddr := 0, rwval := 0
      regn := 0 }
    (256 < s.rxlen.toNat ∨ 256 < s.txlen.toNat →
      exec .parse s = .next { cleared with err := 0x03, faults := setBit s.faults 1 true }) ∧
    (s.rxlen.toNat < 3 ∧ s.txlen.toNat ≤ 256 →
      exec .parse s = .next { cleared with err := 0x10, faults := setBit s.faults 3 true })

/-- R152, R153, R154, R158, R163: the outcomes of `PARSE` that stop after the header, each from the state that holds
the header's writes: a CRC mismatch under `CFG.CRCCHK`, an error reply, an unlisted function code. -/
def Obligations.ParseRejectsByHeader : Prop :=
  ∀ s : State, 3 ≤ s.rxlen.toNat → s.rxlen.toNat ≤ 256 → s.txlen.toNat ≤ 256 →
    let good := crcGood (firstN s.rxbuf s.rxlen.toNat)
    let header : State := { s with
      rkind := 0, rcode := 0, rmsg := 0, rbc := 0, rwaddr := 0, rwval := 0, regn := 0
      rdev := rxAt s 0, rfunc := rxAt s 1, crc := crc16 (firstN s.rxbuf (s.rxlen.toNat - 2))
      rflags := replyFlags good (decide (1 ≤ s.txlen.toNat ∧ rxAt s 0 = txAt s 0))
        (decide (2 ≤ s.txlen.toNat ∧ rxAt s 1 &&& 0x7F = txAt s 1)) }
    (s.crcchk = true ∧ good = false →
      exec .parse s = .next { header with err := 0x11, faults := setBit s.faults 3 true }) ∧
    (¬(s.crcchk = true ∧ good = false) ∧ 128 ≤ (rxAt s 1).toNat →
      exec .parse s = .next { header with
        rkind := 4, rcode := rxAt s 2
        rmsg := if (rxAt s 2).toNat ∈ [1, 2, 3, 4, 5, 6, 8, 10, 11] then (rxAt s 2).setWidth 4 else 0
        err := 0x20, faults := setBit s.faults 4 true }) ∧
    (¬(s.crcchk = true ∧ good = false) ∧ (rxAt s 1).toNat < 128 ∧
        ¬((rxAt s 1).toNat = 3 ∨ (rxAt s 1).toNat = 4 ∨ (rxAt s 1).toNat = 6 ∨ (rxAt s 1).toNat = 16) →
      exec .parse s = .next { header with err := 0x14, faults := setBit s.faults 3 true })

/-- The source's property S9 (R154): a reply whose function byte has bit 7 set is never a successful read. -/
def Obligations.ErrorReplyIsNeverARead : Prop :=
  ∀ s t : State, 3 ≤ s.rxlen.toNat → 128 ≤ (rxAt s 1).toNat → exec .parse s = .next t →
    t.err ≠ 0x00#8 ∧ t.rkind ≠ 1#3 ∧ t.regn = 0#32

/-- R159, R160, R161: a read reply fills `REG` and `REGN`; a truncated one, an odd byte-count and a byte-count other
than the read request asked for are errors with `RBC` kept and no block. -/
def Obligations.ParseOfAReadReply : Prop :=
  ∀ s : State, 3 ≤ s.rxlen.toNat → s.rxlen.toNat ≤ 256 → s.txlen.toNat ≤ 256 →
    (s.crcchk = true → crcGood (firstN s.rxbuf s.rxlen.toNat) = true) →
    ((rxAt s 1).toNat = 3 ∨ (rxAt s 1).toNat = 4) →
    let bc := (rxAt s 2).toNat
    let mismatch : Prop := 6 ≤ s.txlen.toNat ∧ ((txAt s 1).toNat = 3 ∨ (txAt s 1).toNat = 4) ∧
      bc ≠ 2 * ((txAt s 4).toNat * 256 + (txAt s 5).toNat)
    let header : State := { s with
      rkind := 0, rcode := 0, rmsg := 0, rbc := rxAt s 2, rwaddr := 0, rwval := 0, regn := 0
      rdev := rxAt s 0, rfunc := rxAt s 1, crc := crc16 (firstN s.rxbuf (s.rxlen.toNat - 2))
      rflags := replyFlags (crcGood (firstN s.rxbuf s.rxlen.toNat))
        (decide (1 ≤ s.txlen.toNat ∧ rxAt s 0 = txAt s 0))
        (decide (2 ≤ s.txlen.toNat ∧ rxAt s 1 &&& 0x7F = txAt s 1)) }
    (s.rxlen.toNat < 3 + bc → exec .parse s = .next { header with err := 0x12, faults := setBit s.faults 3 true }) ∧
    (3 + bc ≤ s.rxlen.toNat ∧ (bc % 2 = 1 ∨ mismatch) →
      exec .parse s = .next { header with err := 0x13, faults := setBit s.faults 3 true }) ∧
    (3 + bc ≤ s.rxlen.toNat ∧ bc % 2 = 0 ∧ ¬mismatch →
      ∃ t, exec .parse s = .next t ∧ t.regn.toNat = bc / 2 ∧ t.regn.toNat ≤ 126 ∧ t.rkind = 1#3 ∧
        (∀ k, k < bc / 2 → (regAt t k).toNat = (rxAt s (3 + 2 * k)).toNat * 256 + (rxAt s (4 + 2 * k)).toNat) ∧
        (∀ k, bc / 2 ≤ k → regAt t k = regAt s k) ∧
        { t with reg := s.reg, regn := 0, rkind := 0 } = { header with err := 0x00 })

/-- R162: a function 6 or 16 reply reports the echoed address and value or count; fewer than 6 bytes are truncated. -/
def Obligations.ParseOfAnEchoReply : Prop :=
  ∀ s : State, 3 ≤ s.rxlen.toNat → s.rxlen.toNat ≤ 256 → s.txlen.toNat ≤ 256 →
    (s.crcchk = true → crcGood (firstN s.rxbuf s.rxlen.toNat) = true) →
    ((rxAt s 1).toNat = 6 ∨ (rxAt s 1).toNat = 16) →
    let header : State := { s with
      rkind := 0, rcode := 0, rmsg := 0, rbc := 0, rwaddr := 0, rwval := 0, regn := 0
      rdev := rxAt s 0, rfunc := rxAt s 1, crc := crc16 (firstN s.rxbuf (s.rxlen.toNat - 2))
      rflags := replyFlags (crcGood (firstN s.rxbuf s.rxlen.toNat))
        (decide (1 ≤ s.txlen.toNat ∧ rxAt s 0 = txAt s 0))
        (decide (2 ≤ s.txlen.toNat ∧ rxAt s 1 &&& 0x7F = txAt s 1)) }
    (s.rxlen.toNat < 6 → exec .parse s = .next { header with err := 0x12, faults := setBit s.faults 3 true }) ∧
    (6 ≤ s.rxlen.toNat →
      exec .parse s = .next { header with
        rwaddr := frombe16 (rxAt s 2) (rxAt s 3), rwval := frombe16 (rxAt s 4) (rxAt s 5)
        rkind := if (rxAt s 1).toNat = 6 then 2 else 3
        rflags := setBit header.rflags 3
          (decide (6 ≤ s.txlen.toNat) && (List.range 6).all fun k => decide (rxAt s k = txAt s k))
        err := 0x00 })

/-- R164, R202: whatever a failed `PARSE` reported, it leaves no register block, and a `DECODE` after it raises
`DecodeError` (with a field map of at most 64 entries; else `OperandError` comes first), so it publishes nothing. -/
def Obligations.FailedParseCannotBeDecoded : Prop :=
  ∀ s t : State, exec .parse s = .next t → t.err ≠ 0x00#8 →
    t.regn = 0#32 ∧
    (t.nfd.toNat ≤ 64 → ∃ u, exec .decode t = .next u ∧ u.err = 0x30#8 ∧ u.outv = false ∧ u.out = t.out)

/-- A good read reply loaded by the host and parsed gives back exactly its registers (R95, R103, R159), when the request
in `TXBUF` is no read of another count. That a reply row is executed as a load is the model's choice (log 5). -/
def Obligations.LoadedReadReplyParsesToItsRegisters : Prop :=
  ∀ (s u : State) (dev : Byte) (rs : List Half) (c : Half) (i : Instr),
    i = .rspReadHolding dev rs c ∨ i = .rspReadInput dev rs c → rs.length ≤ 125 → s.txlen.toNat ≤ 256 →
    ¬(6 ≤ s.txlen.toNat ∧ ((txAt s 1).toNat = 3 ∨ (txAt s 1).toNat = 4) ∧
      rs.length ≠ (txAt s 4).toNat * 256 + (txAt s 5).toNat) →
    c = crc16 (dev :: (if i = .rspReadHolding dev rs c then 0x03 else 0x04) ::
      BitVec.ofNat 8 (2 * rs.length) :: rs.flatMap be16) →
    exec i s = .next u →
    ∃ t, exec .parse u = .next t ∧ t.err = 0x00#8 ∧ t.rkind = 1#3 ∧ t.rdev = dev ∧ t.regn.toNat = rs.length ∧
      firstN t.reg rs.length = rs ∧ t.rflags.getLsbD 0 = true ∧ t.crc = c

/-! ### Scaling -/

/-- R183, R197, R198: the scalar cache, every outcome. -/
def Obligations.ScalarCacheOperations : Prop :=
  (∀ v : BitVec 16, encode (.scalset v) = .command (0x40000000#32 ||| v.setWidth 32)) ∧
  (∀ idx : BitVec 7, encode (.scalld idx) = .command (0x41000000#32 ||| idx.setWidth 32)) ∧
  encode .scalclr = .command 0x42000000#32 ∧
  (∀ (s : State) (v : BitVec 16),
    exec (.scalset v) s = .next { s with scalar := v, status := setBit s.status 1 true, err := 0x00 }) ∧
  (∀ s : State, exec .scalclr s = .next { s with status := setBit s.status 1 false, err := 0x00 }) ∧
  ∀ (s : State) (idx : BitVec 7),
    (126 < s.regn.toNat →
      exec (.scalld idx) s = .next { s with err := 0x03, faults := setBit s.faults 1 true }) ∧
    (s.regn.toNat ≤ 126 ∧ s.regn.toNat ≤ idx.toNat →
      exec (.scalld idx) s = .next { s with err := 0x30, faults := setBit s.faults 5 true }) ∧
    (s.regn.toNat ≤ 126 ∧ idx.toNat < s.regn.toNat →
      exec (.scalld idx) s =
        .next { s with scalar := regAt s idx.toNat, status := setBit s.status 1 true, err := 0x00 })

/-- R184, R185, R188: `RESOLVE`: the scalar used and its warning, the set selected, and nothing else changed. -/
def Obligations.ResolveSelectsTheSet : Prop :=
  ∀ s : State, ∃ t, exec .resolve s = .next t ∧
    t.scalused = (if s.scalv then s.scalar else s.defscalar) ∧
    t.scaldef = (!s.scalv) ∧ t.msetv = true ∧
    t.faults = (if s.scalv then s.faults else setBit s.faults 8 true) ∧
    (s.manual = true → t.mset = s.man ∧ t.msrc = 3#3 ∧ t.midx = 0#3) ∧
    (s.manual = false ∧ t.scalused.toNat = 15 → t.mset = s.params.m15 ∧ t.msrc = 2#3 ∧ t.midx = 0#3) ∧
    (∀ k, k < 7 → s.manual = false → t.scalused.toNat ≠ 15 →
      k = (if t.scalused.toNat ≤ 6 then t.scalused.toNat else 6) →
      t.msrc = 1#3 ∧ t.midx.toNat = k ∧ ∃ row, s.params.mtab[k]? = some row ∧
        msetAt t 0 = row.power ∧ msetAt t 1 = row.current ∧ msetAt t 2 = row.voltage ∧ msetAt t 3 = row.pf ∧
        msetAt t 4 = ⟨5, 3⟩) ∧
    { t with
      scalused := s.scalused, status := s.status, faults := s.faults, mset := s.mset, msrc := s.msrc, midx := s.midx } =
      { s with err := 0x00 } ∧
    ∀ j, j ≠ 2 → j ≠ 5 → t.status.getLsbD j = s.status.getLsbD j

/-- The source's property S8 (R185): a cached scalar of 6 or more other than 15 resolves to the very set of scalar 6. -/
def Obligations.LargeScalarsClampToSix : Prop :=
  ∀ (s t u : State) (v : BitVec 16), 6 ≤ v.toNat → v.toNat ≠ 15 → s.manual = false → s.scalv = true →
    exec .resolve { s with scalar := v } = .next t → exec .resolve { s with scalar := 6 } = .next u →
    t.mset = u.mset ∧ t.msrc = 1#3 ∧ t.midx = 6#3 ∧ msetAt t 4 = ⟨5, 3⟩

/-- R189, R181: `SCALE16` leaves the exact product in `ACC`; its errors in their order, each clearing `ACCV`. -/
def Obligations.Scale16IsExact : Prop :=
  ∀ (s : State) (off : BitVec 7) (c : MClass),
    encode (.scale16 off c) = .command (0x44000000#32 ||| BitVec.ofNat 32 (c.num * 256) ||| off.setWidth 32) ∧
    let mu : Mult := if c = .raw then ⟨1, 0⟩ else msetAt s c.num
    (126 < s.regn.toNat → exec (.scale16 off c) s =
      .next { s with status := setBit s.status 3 false, err := 0x03, faults := setBit s.faults 1 true }) ∧
    (s.regn.toNat ≤ 126 ∧ c ≠ .raw ∧ s.msetv = false → exec (.scale16 off c) s =
      .next { s with status := setBit s.status 3 false, err := 0x32, faults := setBit s.faults 7 true }) ∧
    (s.regn.toNat ≤ 126 ∧ (c = .raw ∨ s.msetv = true) ∧ s.regn.toNat ≤ off.toNat → exec (.scale16 off c) s =
      .next { s with status := setBit s.status 3 false, err := 0x30, faults := setBit s.faults 5 true }) ∧
    (s.regn.toNat ≤ 126 ∧ (c = .raw ∨ s.msetv = true) ∧ off.toNat < s.regn.toNat →
      ∃ t, exec (.scale16 off c) s = .next t ∧
        t.acc.m.toNat = (regAt s off.toNat).toNat * mu.m.toNat ∧ t.acc.e.toNat = mu.e.toNat ∧
        { t with acc := s.acc } = { s with status := setBit s.status 3 true, err := 0x00 })

/-- R190, R191, R181: `SCALE32` scales the combination of two registers, the lower offset the most significant word
exactly when `CFG.MSWFIRST` is 1. -/
def Obligations.Scale32IsExact : Prop :=
  ∀ (s : State) (off : BitVec 7) (c : MClass),
    encode (.scale32 off c) = .command (0x45000000#32 ||| BitVec.ofNat 32 (c.num * 256) ||| off.setWidth 32) ∧
    let mu : Mult := if c = .raw then ⟨1, 0⟩ else msetAt s c.num
    let first := (regAt s off.toNat).toNat
    let second := (regAt s (off.toNat + 1)).toNat
    let raw := if s.mswfirst then first * 65536 + second else second * 65536 + first
    (126 < s.regn.toNat → exec (.scale32 off c) s =
      .next { s with status := setBit s.status 3 false, err := 0x03, faults := setBit s.faults 1 true }) ∧
    (s.regn.toNat ≤ 126 ∧ c ≠ .raw ∧ s.msetv = false → exec (.scale32 off c) s =
      .next { s with status := setBit s.status 3 false, err := 0x32, faults := setBit s.faults 7 true }) ∧
    (s.regn.toNat ≤ 126 ∧ (c = .raw ∨ s.msetv = true) ∧ s.regn.toNat ≤ off.toNat + 1 → exec (.scale32 off c) s =
      .next { s with status := setBit s.status 3 false, err := 0x30, faults := setBit s.faults 5 true }) ∧
    (s.regn.toNat ≤ 126 ∧ (c = .raw ∨ s.msetv = true) ∧ off.toNat + 1 < s.regn.toNat →
      ∃ t, exec (.scale32 off c) s = .next t ∧
        t.acc.m.toNat = raw * mu.m.toNat ∧ t.acc.e.toNat = mu.e.toNat ∧
        { t with acc := s.acc } = { s with status := setBit s.status 3 true, err := 0x00 })

/-- R192, every outcome: one division by 10 exactly when the value exceeds 100000. -/
def Obligations.P3fixDividesOnceAboveTheThreshold : Prop :=
  encode .p3fix = .command 0x46000000#32 ∧
  ∀ s : State,
    (s.accv = false → exec .p3fix s = .next { s with err := 0x32, faults := setBit s.faults 7 true }) ∧
    (s.accv = true ∧ 100000 * 10 ^ s.acc.e.toNat < s.acc.m.toNat →
      exec .p3fix s = .next { s with acc := ⟨s.acc.m, s.acc.e + 1⟩, err := 0x00 }) ∧
    (s.accv = true ∧ s.acc.m.toNat ≤ 100000 * 10 ^ s.acc.e.toNat → exec .p3fix s = .next { s with err := 0x00 })

/-- R194, R195, R201: a failing `DECODE` clears `OUTV` and reports the first failing check, and changes nothing else. -/
def Obligations.FailingDecodeOnlyClearsOutv : Prop :=
  ∀ s : State,
    let n := if s.detailed then 64 else 22
    let invalid : Word → Prop := fun d =>
      (d.extractLsb' 15 17).toNat ≠ 0 ∨ 5 < (d.extractLsb' 8 3).toNat ∨ 4 < (d.extractLsb' 12 3).toNat ∨
      n ≤ (d.extractLsb' 0 7).toNat + (if d.getLsbD 7 then 1 else 0)
    (126 < s.regn.toNat ∨ 64 < s.nfd.toNat → exec .decode s =
      .next { s with status := setBit s.status 4 false, err := 0x03, faults := setBit s.faults 1 true }) ∧
    (s.regn.toNat ≤ 126 ∧ s.nfd.toNat ≤ 64 ∧ s.regn.toNat < n → exec .decode s =
      .next { s with status := setBit s.status 4 false, err := 0x30, faults := setBit s.faults 5 true }) ∧
    (s.regn.toNat ≤ 126 ∧ s.nfd.toNat ≤ 64 ∧ n ≤ s.regn.toNat ∧ (∃ k, k < s.nfd.toNat ∧ invalid (fdAt s k)) →
      exec .decode s =
        .next { s with status := setBit s.status 4 false, err := 0x31, faults := setBit s.faults 6 true })

/-- R195, R192, R181: a `DECODE` that passes its checks resolves as `RESOLVE` does, then leaves in each entry the exact
scaled value of its descriptor's registers, with the phase-3 correction where its bit asks for it. -/
def Obligations.DecodeAssemblesEveryField : Prop :=
  ∀ s : State,
    let n := if s.detailed then 64 else 22
    s.regn.toNat ≤ 126 → s.nfd.toNat ≤ 64 → n ≤ s.regn.toNat →
    (∀ k, k < s.nfd.toNat → ((fdAt s k).extractLsb' 15 17).toNat = 0 ∧ ((fdAt s k).extractLsb' 8 3).toNat ≤ 5 ∧
      ((fdAt s k).extractLsb' 12 3).toNat ≤ 4 ∧
      ((fdAt s k).extractLsb' 0 7).toNat + (if (fdAt s k).getLsbD 7 then 1 else 0) < n) →
    ∃ r t, exec .resolve s = .next r ∧ exec .decode s = .next t ∧
      { t with out := r.out } =
        { r with outn := BitVec.ofNat 7 s.nfd.toNat, status := setBit r.status 4 true } ∧
      (∀ k, s.nfd.toNat ≤ k → outAt t k = outAt s k) ∧
      ∀ k, k < s.nfd.toNat →
        let d := fdAt s k
        let off := (d.extractLsb' 0 7).toNat
        let first := (regAt s off).toNat
        let second := (regAt s (off + 1)).toNat
        let raw := if d.getLsbD 7 then
          (if s.mswfirst then first * 65536 + second else second * 65536 + first) else first
        let mu : Mult := if (d.extractLsb' 8 3).toNat = 5 then ⟨1, 0⟩ else msetAt r (d.extractLsb' 8 3).toNat
        let fix : Prop := d.getLsbD 11 = true ∧ 100000 * 10 ^ mu.e.toNat < raw * mu.m.toNat
        (outAt t k).m.toNat = raw * mu.m.toNat ∧
        (fix → (outAt t k).e.toNat = mu.e.toNat + 1 ∧ (outAt t k).fl = 0b0001#4) ∧
        (¬fix → (outAt t k).e.toNat = mu.e.toNat ∧ (outAt t k).fl = 0b0000#4)

/-! ### Plausibility filter -/

/-- R220 steps 1 to 3: a failing `FILTER` changes only `ERR` and `FAULTS`. -/
def Obligations.FailingFilterChangesNoField : Prop :=
  ∀ s : State, s.outn.toNat ≤ 64 →
    (126 < s.regn.toNat → exec .filter s = .next { s with err := 0x03, faults := setBit s.faults 1 true }) ∧
    (s.regn.toNat ≤ 126 ∧ s.outv = false →
      exec .filter s = .next { s with err := 0x32, faults := setBit s.faults 7 true }) ∧
    (s.regn.toNat ≤ 126 ∧ s.outv = true ∧ (∃ k, k < s.outn.toNat ∧ ((fdAt s k).extractLsb' 12 3).toNat = 4 ∧
        s.regn.toNat ≤ ((fdAt s k).extractLsb' 0 7).toNat) →
      exec .filter s = .next { s with err := 0x30, faults := setBit s.faults 5 true })

/-- R220 to R224, R228: what `FILTER` makes of every entry, by its descriptor's role, and that it changes nothing
else. -/
def Obligations.FilterCorrectsEachFieldByRole : Prop :=
  ∀ s : State, s.outn.toNat ≤ 64 → s.regn.toNat ≤ 126 → s.outv = true →
    (∀ k, k < s.outn.toNat → ((fdAt s k).extractLsb' 12 3).toNat = 4 →
      ((fdAt s k).extractLsb' 0 7).toNat < s.regn.toNat) →
    ∃ t, exec .filter s = .next t ∧ { t with out := s.out } = { s with err := 0x00 } ∧
      (∀ k, s.outn.toNat ≤ k → outAt t k = outAt s k) ∧
      ∀ k, k < s.outn.toNat →
        let role := ((fdAt s k).extractLsb' 12 3).toNat
        let f := outAt s k
        let unit := 10 ^ f.e.toNat
        let raw := (regAt s ((fdAt s k).extractLsb' 0 7).toNat).toNat
        (role = 1 → outAt t k =
          if 10000 * unit < f.m.toNat then ⟨f.m, f.e + 1, setBit f.fl 1 true⟩ else f) ∧
        (role = 2 → outAt t k =
          if 5000 * unit < f.m.toNat then ⟨f.m, f.e + 1, setBit f.fl 1 true⟩ else f) ∧
        (role = 3 → outAt t k =
          if 1000000000 * unit < f.m.toNat then ⟨f.m, f.e + 2, setBit f.fl 2 true⟩ else f) ∧
        (role = 4 → outAt t k =
          if ¬(f.m.toNat < 45 * unit ∨ 65 * unit < f.m.toNat) then f
          else if 550 < raw ∧ raw < 650 then ⟨BitVec.ofNat 64 raw, 1, setBit f.fl 3 true⟩
          else if 5500 < raw ∧ raw < 6500 then ⟨BitVec.ofNat 64 raw, 2, setBit f.fl 3 true⟩
          else if 10000 < raw then ⟨BitVec.ofNat 64 (raw * 5), 3, setBit f.fl 3 true⟩
          else f) ∧
        (role = 0 ∨ 5 ≤ role → outAt t k = f)

/-! ### Frames -/

/-- R92 to R94, R103: `REQ.READ_HOLDING`, `REQ.READ_INPUT`, `REQ.WRITE_SINGLE`, `REQ.WRITE_MULTIPLE` put the bytes of
their layout into `TXBUF`, the length into `TXLEN`, and change nothing else. That a frame row is executed as this
load line is the model's choice (log 5). The fault of one that does not fit is too (log 8). -/
def Obligations.RequestFramesLoadIntoTxbuf : Prop :=
  ∀ (s : State) (dev : Byte) (w v c : Half) (vs : List Half),
    exec (.reqReadHolding dev w v c) s = .next { s with
      txbuf := putAll s.txbuf 0 [dev, 0x03, hi8 w, lo8 w, hi8 v, lo8 v, lo8 c, hi8 c], txlen := 8 } ∧
    exec (.reqReadInput dev w v c) s = .next { s with
      txbuf := putAll s.txbuf 0 [dev, 0x04, hi8 w, lo8 w, hi8 v, lo8 v, lo8 c, hi8 c], txlen := 8 } ∧
    exec (.reqWriteSingle dev w v c) s = .next { s with
      txbuf := putAll s.txbuf 0 [dev, 0x06, hi8 w, lo8 w, hi8 v, lo8 v, lo8 c, hi8 c], txlen := 8 } ∧
    (vs.length ≤ 123 → exec (.reqWriteMultiple dev w vs c) s = .next { s with
      txbuf := putAll s.txbuf 0 ([dev, 0x10, hi8 w, lo8 w, hi8 (BitVec.ofNat 16 vs.length),
        lo8 (BitVec.ofNat 16 vs.length), BitVec.ofNat 8 (2 * vs.length)] ++ vs.flatMap be16 ++ [lo8 c, hi8 c])
      txlen := BitVec.ofNat 32 (9 + 2 * vs.length) }) ∧
    (123 < vs.length → exec (.reqWriteMultiple dev w vs c) s = .fault .loadBeyondBuffer)

/-- R95 to R98, R103: `RSP.READ_HOLDING`, `RSP.READ_INPUT`, `RSP.WRITE_SINGLE`, `RSP.WRITE_MULTIPLE`, `RSP.ERROR` put the
bytes of their layout into `RXBUF`, the number into `RXLEN`, and change nothing else (log 5). Executing a frame row as this load line is the model's choice (log 5),
the fault of one that does not fit too (log 8). -/
def Obligations.ReplyFramesLoadIntoRxbuf : Prop :=
  ∀ (s : State) (dev fn code : Byte) (w v c : Half) (rs : List Half),
    (rs.length ≤ 125 → exec (.rspReadHolding dev rs c) s = .next { s with
      rxbuf := putAll s.rxbuf 0 ([dev, 0x03, BitVec.ofNat 8 (2 * rs.length)] ++ rs.flatMap be16 ++ [lo8 c, hi8 c])
      rxlen := BitVec.ofNat 32 (5 + 2 * rs.length) }) ∧
    (rs.length ≤ 125 → exec (.rspReadInput dev rs c) s = .next { s with
      rxbuf := putAll s.rxbuf 0 ([dev, 0x04, BitVec.ofNat 8 (2 * rs.length)] ++ rs.flatMap be16 ++ [lo8 c, hi8 c])
      rxlen := BitVec.ofNat 32 (5 + 2 * rs.length) }) ∧
    (125 < rs.length → exec (.rspReadHolding dev rs c) s = .fault .loadBeyondBuffer ∧
      exec (.rspReadInput dev rs c) s = .fault .loadBeyondBuffer) ∧
    exec (.rspWriteSingle dev w v c) s = .next { s with
      rxbuf := putAll s.rxbuf 0 [dev, 0x06, hi8 w, lo8 w, hi8 v, lo8 v, lo8 c, hi8 c], rxlen := 8 } ∧
    exec (.rspWriteMultiple dev w v c) s = .next { s with
      rxbuf := putAll s.rxbuf 0 [dev, 0x10, hi8 w, lo8 w, hi8 v, lo8 v, lo8 c, hi8 c], rxlen := 8 } ∧
    exec (.rspError dev fn code c) s = .next { s with
      rxbuf := putAll s.rxbuf 0 [dev, fn, code, lo8 c, hi8 c], rxlen := 5 }
end

