-- ==== Sys2Proof/Laws/Arrays.lean ====
section
/-! SUPPORT. Reading an array register after writing it. -/

namespace Sys2Proof.Machine

variable {α : Type} {n : Nat}

theorem elem_eq (d : α) (v : Vector α n) (i : Nat) : elem d v i = (v[i]?).getD d := by
  simp [elem, List.getD_eq_getElem?_getD]

/-- Inside the array, `elem` is the element. -/
theorem elem_getElem (d : α) (v : Vector α n) (i : Nat) (h : i < n) : elem d v i = v[i] := by
  simp [elem_eq, h]

theorem elem_put (d : α) (v : Vector α n) (i j : Nat) (x : α) :
    elem d (put v i x) j = if i = j ∧ j < n then x else elem d v j := by
  simp only [elem_eq, put]
  by_cases hj : j < n
  · by_cases hij : i = j
    · subst hij
      simp [hj]
    · simp [Vector.getElem?_setIfInBounds_ne hij, hij]
  · simp [hj]

theorem elem_putAll (d : α) (xs : List α) (v : Vector α n) (i j : Nat) :
    elem d (putAll v i xs) j = if i ≤ j ∧ j < i + xs.length ∧ j < n then xs.getD (j - i) d else elem d v j := by
  induction xs generalizing v i with
  | nil => simp [putAll]; omega
  | cons x xs ih =>
    simp only [putAll, ih, elem_put, List.length_cons]
    by_cases hij : i = j
    · subst hij
      by_cases hn : i < n <;> simp [hn]
    · by_cases h : i + 1 ≤ j ∧ j < i + 1 + xs.length ∧ j < n
      · have h' : i ≤ j ∧ j < i + (xs.length + 1) ∧ j < n := by omega
        obtain ⟨k, rfl⟩ : ∃ k, j = i + 1 + k := ⟨j - (i + 1), by omega⟩
        rw [if_pos h, if_pos h']
        have e1 : i + 1 + k - (i + 1) = k := by omega
        have e2 : i + 1 + k - i = k + 1 := by omega
        rw [e1, e2]
        simp
      · have h' : ¬(i ≤ j ∧ j < i + (xs.length + 1) ∧ j < n) := by omega
        rw [if_neg h, if_neg h', if_neg (by omega)]

theorem elem_tabulate (d : α) (f : Nat → α) (i : Nat) (h : i < n) : elem d (tabulate n f) i = f i := by
  simp [elem, tabulate, Vector.toList, h]

@[simp] theorem length_firstN (v : Vector α n) (k : Nat) : (firstN v k).length = min k n := by
  simp [firstN]

theorem getD_firstN (d : α) (v : Vector α n) (k j : Nat) (h : j < k) : (firstN v k).getD j d = elem d v j := by
  simp [firstN, elem, h]

/-- A prefix is determined element by element. -/
theorem firstN_eq (d : α) (v : Vector α n) (xs : List α) (hn : xs.length ≤ n)
    (h : ∀ j, j < xs.length → elem d v j = xs.getD j d) : firstN v xs.length = xs := by
  apply List.ext_getElem
  · simp [hn]
  · intro j h1 h2
    have := getD_firstN d v xs.length j h2
    rw [h j h2] at this
    simpa [List.getD_eq_getElem?_getD, List.getElem?_eq_getElem h1, List.getElem?_eq_getElem h2] using this

theorem firstN_putAll (v : Vector α n) (xs : List α) (hn : xs.length ≤ n) : firstN (putAll v 0 xs) xs.length = xs := by
  rcases xs with _ | ⟨x, xs⟩
  · simp [firstN]
  · refine firstN_eq x _ _ hn fun j hj => ?_
    rw [elem_putAll, if_pos ⟨Nat.zero_le _, by omega, by omega⟩, Nat.sub_zero]

/-- Bytes appended after the first `k` elements. -/
theorem firstN_putAll_append (v : Vector α n) (k : Nat) (xs : List α) (hn : k + xs.length ≤ n) :
    firstN (putAll v k xs) (k + xs.length) = firstN v k ++ xs := by
  rcases hx : firstN v k ++ xs with _ | ⟨y, ys⟩
  · have : k + xs.length = 0 := by
      have := congrArg List.length hx
      simp at this
      obtain ⟨h1, h2⟩ := this
      subst h2
      simp at hn ⊢
      omega
    simp [firstN, this]
  · have hl : (firstN v k ++ xs).length = k + xs.length := by simp; omega
    rw [← hx, ← hl]
    refine firstN_eq y _ _ (by omega) fun j hj => ?_
    rw [elem_putAll]
    by_cases h : j < k
    · rw [if_neg (by omega), List.getD_append _ _ _ _ (by simp; omega), getD_firstN _ _ _ _ h]
    · rw [if_pos (by omega), List.getD_append_right _ _ _ _ (by simp; omega)]
      congr 1
      simp
      omega

theorem frombe16_hi_lo (v : Half) : frombe16 (hi8 v) (lo8 v) = v := by
  apply BitVec.eq_of_getLsbD_eq
  intro i hi
  simp only [frombe16, hi8, lo8, BitVec.getLsbD_append, BitVec.getLsbD_extractLsb']
  by_cases h : i < 8
  · simp [h]
  · have h2 : i - 8 < 8 := by omega
    have h3 : 8 + (i - 8) = i := by omega
    simp [h, h2, h3]

theorem hi8_frombe16 (h l : Byte) : hi8 (frombe16 h l) = h := by
  apply BitVec.eq_of_getLsbD_eq
  intro i hi
  simp only [frombe16, hi8, BitVec.getLsbD_extractLsb', BitVec.getLsbD_append]
  simp [hi]

theorem lo8_frombe16 (h l : Byte) : lo8 (frombe16 h l) = l := by
  apply BitVec.eq_of_getLsbD_eq
  intro i hi
  simp only [frombe16, lo8, BitVec.getLsbD_extractLsb', BitVec.getLsbD_append]
  simp [hi]

end Sys2Proof.Machine
end

