-- ==== Sys2Proof/Laws/Codec.lean ====
section
/-! SUPPORT. The fields of an encoded command word, and the tail of an encoded frame. -/

namespace Sys2Proof

open Sys2Proof.Machine

theorem opc_commandWord (o : BitVec 8) (a : BitVec 24) : (commandWord o a).extractLsb' 24 8 = o := by
  apply BitVec.eq_of_getLsbD_eq
  intro i hi
  simp only [commandWord, BitVec.getLsbD_extractLsb', BitVec.getLsbD_append]
  simp [hi]

theorem arg_commandWord (o : BitVec 8) (a : BitVec 24) (k n : Nat) (h : k + n ≤ 24) :
    (commandWord o a).extractLsb' k n = a.extractLsb' k n := by
  apply BitVec.eq_of_getLsbD_eq
  intro i hi
  simp only [commandWord, BitVec.getLsbD_extractLsb', BitVec.getLsbD_append]
  have : k + i < 24 := by omega
  simp [this]

theorem bit_commandWord (o : BitVec 8) (a : BitVec 24) (k : Nat) (h : k < 24) :
    (commandWord o a).getLsbD k = a.getLsbD k := by
  simp only [commandWord, BitVec.getLsbD_append]
  simp [h]

/-- An argument without reserved bits makes a word without them. -/
theorem reserved_commandWord (o : BitVec 8) (a m : BitVec 24) (h : a &&& m = 0) :
    commandWord o a &&& (0#8 ++ m) = 0 := by
  have : commandWord o a &&& (0#8 ++ m) = 0#8 ++ (a &&& m) := by
    apply BitVec.eq_of_getLsbD_eq
    intro i hi
    simp only [commandWord, BitVec.getLsbD_append, BitVec.getLsbD_and]
    by_cases h : i < 24 <;> simp [h]
  rw [this, h]
  decide

theorem extract_setWidth (n : Nat) (h : n ≤ 24) (x : BitVec n) : (x.setWidth 24).extractLsb' 0 n = x := by
  apply BitVec.eq_of_getLsbD_eq
  intro i hi
  simp only [BitVec.getLsbD_extractLsb', BitVec.getLsbD_setWidth]
  have : i < 24 := by omega
  simp [hi, this]

theorem setWidth_and (n : Nat) (x : BitVec n) (m : BitVec 24) (h : ∀ i, i < n → m.getLsbD i = false) :
    x.setWidth 24 &&& m = 0 := by
  apply BitVec.eq_of_getLsbD_eq
  intro i hi
  simp only [BitVec.getLsbD_and, BitVec.getLsbD_setWidth]
  by_cases hn : i < n
  · simp [h i hn]
  · simp [BitVec.getLsbD_of_ge x i (by omega)]

theorem argF_off (off : BitVec 7) (c : MClass) : (argF off c).extractLsb' 0 7 = off := by
  cases c <;> revert off <;> decide +kernel

theorem argF_class (off : BitVec 7) (c : MClass) : ((argF off c).extractLsb' 8 3).toNat = c.num := by
  cases c <;> revert off <;> decide +kernel

theorem argF_reserved (off : BitVec 7) (c : MClass) : argF off c &&& 0xFFF880#24 = 0 := by
  cases c <;> revert off <;> decide +kernel

theorem classOf_num (c : MClass) : classOf c.num = some c := by
  cases c <;> rfl

/-- `ARG` of format L: `SEL` in 16, `LEN` in 8:0. -/
theorem argL_len (b : BufSel) (l : BitVec 9) : (BitVec.ofNat 24 (b.num * 2 ^ 16 + l.toNat)).extractLsb' 0 9 = l := by
  cases b <;> revert l <;> decide +kernel

theorem argL_reserved (b : BufSel) (l : BitVec 9) : BitVec.ofNat 24 (b.num * 2 ^ 16 + l.toNat) &&& 0xFEFE00#24 = 0 := by
  cases b <;> revert l <;> decide +kernel

theorem argL_sel (b : BufSel) (l : BitVec 9) :
    (BitVec.ofNat 24 (b.num * 2 ^ 16 + l.toNat)).getLsbD 16 = decide (b = .rx) := by
  cases b <;> revert l <;> decide +kernel

/-- The tail of a frame gives back its quantities and its CRC. -/
theorem splitTail_encode (vs : List Half) (c : Half) : splitTail (vs.flatMap be16 ++ le16 c) = some (vs, c) := by
  induction vs with
  | nil => simp [splitTail, le16, frombe16_hi_lo]
  | cons v vs ih =>
    have : ∃ a b r, vs.flatMap be16 ++ le16 c = a :: b :: r := by
      rcases vs with _ | ⟨v, vs⟩ <;> simp [le16, be16]
    obtain ⟨a, b, r, h⟩ := this
    simp only [List.flatMap_cons, be16, List.cons_append, List.nil_append]
    rw [h] at ih ⊢
    simp [splitTail, ih, frombe16_hi_lo]

/-- And every tail that splits is the one its parts encode. -/
theorem splitTail_sound (tail : List Byte) (vs : List Half) (c : Half) (h : splitTail tail = some (vs, c)) :
    tail = vs.flatMap be16 ++ le16 c := by
  fun_induction splitTail tail generalizing vs with
  | case1 l h =>
    simp only [Option.some.injEq, Prod.mk.injEq] at h
    obtain ⟨rfl, rfl⟩ := h
    simp [le16, lo8_frombe16, hi8_frombe16]
  | case2 a b rest _ ws d hs ih =>
    simp only [Option.some.injEq, Prod.mk.injEq] at h
    obtain ⟨rfl, rfl⟩ := h
    simp [be16, lo8_frombe16, hi8_frombe16, ih ws hs]
  | case3 => cases h
  | case4 => cases h

theorem length_flatMap_be16 (vs : List Half) : (vs.flatMap be16).length = 2 * vs.length := by
  induction vs with
  | nil => rfl
  | cons v vs ih => simp [be16] at ih ⊢; omega

end Sys2Proof
end

