-- ==== Sys2Proof/Laws/State.lean ====
section
/-! SUPPORT. For each named update of the state, what every field is after it. -/

namespace Sys2Proof.Machine

variable (s : State)

@[simp] theorem raise_cmd (e : ErrCode) : (raise e s).cmd = s.cmd := rfl
@[simp] theorem raise_status (e : ErrCode) : (raise e s).status = s.status := rfl
@[simp] theorem raise_err (e : ErrCode) : (raise e s).err = codeOf e := rfl
@[simp] theorem raise_faults (e : ErrCode) : (raise e s).faults = setBit s.faults (faultBit e) true := rfl
@[simp] theorem raise_cfg (e : ErrCode) : (raise e s).cfg = s.cfg := rfl
@[simp] theorem raise_defscalar (e : ErrCode) : (raise e s).defscalar = s.defscalar := rfl
@[simp] theorem raise_crc (e : ErrCode) : (raise e s).crc = s.crc := rfl
@[simp] theorem raise_devaddr (e : ErrCode) : (raise e s).devaddr = s.devaddr := rfl
@[simp] theorem raise_func (e : ErrCode) : (raise e s).func = s.func := rfl
@[simp] theorem raise_regaddr (e : ErrCode) : (raise e s).regaddr = s.regaddr := rfl
@[simp] theorem raise_count (e : ErrCode) : (raise e s).count = s.count := rfl
@[simp] theorem raise_nval (e : ErrCode) : (raise e s).nval = s.nval := rfl
@[simp] theorem raise_waddr (e : ErrCode) : (raise e s).waddr = s.waddr := rfl
@[simp] theorem raise_txlen (e : ErrCode) : (raise e s).txlen = s.txlen := rfl
@[simp] theorem raise_explen (e : ErrCode) : (raise e s).explen = s.explen := rfl
@[simp] theorem raise_rxlen (e : ErrCode) : (raise e s).rxlen = s.rxlen := rfl
@[simp] theorem raise_rkind (e : ErrCode) : (raise e s).rkind = s.rkind := rfl
@[simp] theorem raise_rflags (e : ErrCode) : (raise e s).rflags = s.rflags := rfl
@[simp] theorem raise_rdev (e : ErrCode) : (raise e s).rdev = s.rdev := rfl
@[simp] theorem raise_rfunc (e : ErrCode) : (raise e s).rfunc = s.rfunc := rfl
@[simp] theorem raise_rcode (e : ErrCode) : (raise e s).rcode = s.rcode := rfl
@[simp] theorem raise_rmsg (e : ErrCode) : (raise e s).rmsg = s.rmsg := rfl
@[simp] theorem raise_rbc (e : ErrCode) : (raise e s).rbc = s.rbc := rfl
@[simp] theorem raise_regn (e : ErrCode) : (raise e s).regn = s.regn := rfl
@[simp] theorem raise_rwaddr (e : ErrCode) : (raise e s).rwaddr = s.rwaddr := rfl
@[simp] theorem raise_rwval (e : ErrCode) : (raise e s).rwval = s.rwval := rfl
@[simp] theorem raise_scalar (e : ErrCode) : (raise e s).scalar = s.scalar := rfl
@[simp] theorem raise_scalused (e : ErrCode) : (raise e s).scalused = s.scalused := rfl
@[simp] theorem raise_msrc (e : ErrCode) : (raise e s).msrc = s.msrc := rfl
@[simp] theorem raise_midx (e : ErrCode) : (raise e s).midx = s.midx := rfl
@[simp] theorem raise_acc (e : ErrCode) : (raise e s).acc = s.acc := rfl
@[simp] theorem raise_nfd (e : ErrCode) : (raise e s).nfd = s.nfd := rfl
@[simp] theorem raise_outn (e : ErrCode) : (raise e s).outn = s.outn := rfl
@[simp] theorem raise_val (e : ErrCode) : (raise e s).val = s.val := rfl
@[simp] theorem raise_txbuf (e : ErrCode) : (raise e s).txbuf = s.txbuf := rfl
@[simp] theorem raise_rxbuf (e : ErrCode) : (raise e s).rxbuf = s.rxbuf := rfl
@[simp] theorem raise_reg (e : ErrCode) : (raise e s).reg = s.reg := rfl
@[simp] theorem raise_man (e : ErrCode) : (raise e s).man = s.man := rfl
@[simp] theorem raise_mset (e : ErrCode) : (raise e s).mset = s.mset := rfl
@[simp] theorem raise_fd (e : ErrCode) : (raise e s).fd = s.fd := rfl
@[simp] theorem raise_out (e : ErrCode) : (raise e s).out = s.out := rfl
@[simp] theorem raise_prog (e : ErrCode) : (raise e s).prog = s.prog := rfl
@[simp] theorem raise_pc (e : ErrCode) : (raise e s).pc = s.pc := rfl
@[simp] theorem raise_rdata (e : ErrCode) : (raise e s).rdata = s.rdata := rfl
@[simp] theorem raise_params (e : ErrCode) : (raise e s).params = s.params := rfl

@[simp] theorem finish_cmd : (finish s).cmd = s.cmd := rfl
@[simp] theorem finish_status : (finish s).status = s.status := rfl
@[simp] theorem finish_err : (finish s).err = 0x00 := rfl
@[simp] theorem finish_faults : (finish s).faults = s.faults := rfl
@[simp] theorem finish_cfg : (finish s).cfg = s.cfg := rfl
@[simp] theorem finish_defscalar : (finish s).defscalar = s.defscalar := rfl
@[simp] theorem finish_crc : (finish s).crc = s.crc := rfl
@[simp] theorem finish_devaddr : (finish s).devaddr = s.devaddr := rfl
@[simp] theorem finish_func : (finish s).func = s.func := rfl
@[simp] theorem finish_regaddr : (finish s).regaddr = s.regaddr := rfl
@[simp] theorem finish_count : (finish s).count = s.count := rfl
@[simp] theorem finish_nval : (finish s).nval = s.nval := rfl
@[simp] theorem finish_waddr : (finish s).waddr = s.waddr := rfl
@[simp] theorem finish_txlen : (finish s).txlen = s.txlen := rfl
@[simp] theorem finish_explen : (finish s).explen = s.explen := rfl
@[simp] theorem finish_rxlen : (finish s).rxlen = s.rxlen := rfl
@[simp] theorem finish_rkind : (finish s).rkind = s.rkind := rfl
@[simp] theorem finish_rflags : (finish s).rflags = s.rflags := rfl
@[simp] theorem finish_rdev : (finish s).rdev = s.rdev := rfl
@[simp] theorem finish_rfunc : (finish s).rfunc = s.rfunc := rfl
@[simp] theorem finish_rcode : (finish s).rcode = s.rcode := rfl
@[simp] theorem finish_rmsg : (finish s).rmsg = s.rmsg := rfl
@[simp] theorem finish_rbc : (finish s).rbc = s.rbc := rfl
@[simp] theorem finish_regn : (finish s).regn = s.regn := rfl
@[simp] theorem finish_rwaddr : (finish s).rwaddr = s.rwaddr := rfl
@[simp] theorem finish_rwval : (finish s).rwval = s.rwval := rfl
@[simp] theorem finish_scalar : (finish s).scalar = s.scalar := rfl
@[simp] theorem finish_scalused : (finish s).scalused = s.scalused := rfl
@[simp] theorem finish_msrc : (finish s).msrc = s.msrc := rfl
@[simp] theorem finish_midx : (finish s).midx = s.midx := rfl
@[simp] theorem finish_acc : (finish s).acc = s.acc := rfl
@[simp] theorem finish_nfd : (finish s).nfd = s.nfd := rfl
@[simp] theorem finish_outn : (finish s).outn = s.outn := rfl
@[simp] theorem finish_val : (finish s).val = s.val := rfl
@[simp] theorem finish_txbuf : (finish s).txbuf = s.txbuf := rfl
@[simp] theorem finish_rxbuf : (finish s).rxbuf = s.rxbuf := rfl
@[simp] theorem finish_reg : (finish s).reg = s.reg := rfl
@[simp] theorem finish_man : (finish s).man = s.man := rfl
@[simp] theorem finish_mset : (finish s).mset = s.mset := rfl
@[simp] theorem finish_fd : (finish s).fd = s.fd := rfl
@[simp] theorem finish_out : (finish s).out = s.out := rfl
@[simp] theorem finish_prog : (finish s).prog = s.prog := rfl
@[simp] theorem finish_pc : (finish s).pc = s.pc := rfl
@[simp] theorem finish_rdata : (finish s).rdata = s.rdata := rfl
@[simp] theorem finish_params : (finish s).params = s.params := rfl

@[simp] theorem setFault_cmd (k : Nat) : (setFault k s).cmd = s.cmd := rfl
@[simp] theorem setFault_status (k : Nat) : (setFault k s).status = s.status := rfl
@[simp] theorem setFault_err (k : Nat) : (setFault k s).err = s.err := rfl
@[simp] theorem setFault_faults (k : Nat) : (setFault k s).faults = setBit s.faults k true := rfl
@[simp] theorem setFault_cfg (k : Nat) : (setFault k s).cfg = s.cfg := rfl
@[simp] theorem setFault_defscalar (k : Nat) : (setFault k s).defscalar = s.defscalar := rfl
@[simp] theorem setFault_crc (k : Nat) : (setFault k s).crc = s.crc := rfl
@[simp] theorem setFault_devaddr (k : Nat) : (setFault k s).devaddr = s.devaddr := rfl
@[simp] theorem setFault_func (k : Nat) : (setFault k s).func = s.func := rfl
@[simp] theorem setFault_regaddr (k : Nat) : (setFault k s).regaddr = s.regaddr := rfl
@[simp] theorem setFault_count (k : Nat) : (setFault k s).count = s.count := rfl
@[simp] theorem setFault_nval (k : Nat) : (setFault k s).nval = s.nval := rfl
@[simp] theorem setFault_waddr (k : Nat) : (setFault k s).waddr = s.waddr := rfl
@[simp] theorem setFault_txlen (k : Nat) : (setFault k s).txlen = s.txlen := rfl
@[simp] theorem setFault_explen (k : Nat) : (setFault k s).explen = s.explen := rfl
@[simp] theorem setFault_rxlen (k : Nat) : (setFault k s).rxlen = s.rxlen := rfl
@[simp] theorem setFault_rkind (k : Nat) : (setFault k s).rkind = s.rkind := rfl
@[simp] theorem setFault_rflags (k : Nat) : (setFault k s).rflags = s.rflags := rfl
@[simp] theorem setFault_rdev (k : Nat) : (setFault k s).rdev = s.rdev := rfl
@[simp] theorem setFault_rfunc (k : Nat) : (setFault k s).rfunc = s.rfunc := rfl
@[simp] theorem setFault_rcode (k : Nat) : (setFault k s).rcode = s.rcode := rfl
@[simp] theorem setFault_rmsg (k : Nat) : (setFault k s).rmsg = s.rmsg := rfl
@[simp] theorem setFault_rbc (k : Nat) : (setFault k s).rbc = s.rbc := rfl
@[simp] theorem setFault_regn (k : Nat) : (setFault k s).regn = s.regn := rfl
@[simp] theorem setFault_rwaddr (k : Nat) : (setFault k s).rwaddr = s.rwaddr := rfl
@[simp] theorem setFault_rwval (k : Nat) : (setFault k s).rwval = s.rwval := rfl
@[simp] theorem setFault_scalar (k : Nat) : (setFault k s).scalar = s.scalar := rfl
@[simp] theorem setFault_scalused (k : Nat) : (setFault k s).scalused = s.scalused := rfl
@[simp] theorem setFault_msrc (k : Nat) : (setFault k s).msrc = s.msrc := rfl
@[simp] theorem setFault_midx (k : Nat) : (setFault k s).midx = s.midx := rfl
@[simp] theorem setFault_acc (k : Nat) : (setFault k s).acc = s.acc := rfl
@[simp] theorem setFault_nfd (k : Nat) : (setFault k s).nfd = s.nfd := rfl
@[simp] theorem setFault_outn (k : Nat) : (setFault k s).outn = s.outn := rfl
@[simp] theorem setFault_val (k : Nat) : (setFault k s).val = s.val := rfl
@[simp] theorem setFault_txbuf (k : Nat) : (setFault k s).txbuf = s.txbuf := rfl
@[simp] theorem setFault_rxbuf (k : Nat) : (setFault k s).rxbuf = s.rxbuf := rfl
@[simp] theorem setFault_reg (k : Nat) : (setFault k s).reg = s.reg := rfl
@[simp] theorem setFault_man (k : Nat) : (setFault k s).man = s.man := rfl
@[simp] theorem setFault_mset (k : Nat) : (setFault k s).mset = s.mset := rfl
@[simp] theorem setFault_fd (k : Nat) : (setFault k s).fd = s.fd := rfl
@[simp] theorem setFault_out (k : Nat) : (setFault k s).out = s.out := rfl
@[simp] theorem setFault_prog (k : Nat) : (setFault k s).prog = s.prog := rfl
@[simp] theorem setFault_pc (k : Nat) : (setFault k s).pc = s.pc := rfl
@[simp] theorem setFault_rdata (k : Nat) : (setFault k s).rdata = s.rdata := rfl
@[simp] theorem setFault_params (k : Nat) : (setFault k s).params = s.params := rfl

@[simp] theorem warnDef_cmd : (warnDef s).cmd = s.cmd := rfl
@[simp] theorem warnDef_status : (warnDef s).status = s.status := rfl
@[simp] theorem warnDef_err : (warnDef s).err = s.err := rfl
@[simp] theorem warnDef_faults : (warnDef s).faults = setBit s.faults 8 true := rfl
@[simp] theorem warnDef_cfg : (warnDef s).cfg = s.cfg := rfl
@[simp] theorem warnDef_defscalar : (warnDef s).defscalar = s.defscalar := rfl
@[simp] theorem warnDef_crc : (warnDef s).crc = s.crc := rfl
@[simp] theorem warnDef_devaddr : (warnDef s).devaddr = s.devaddr := rfl
@[simp] theorem warnDef_func : (warnDef s).func = s.func := rfl
@[simp] theorem warnDef_regaddr : (warnDef s).regaddr = s.regaddr := rfl
@[simp] theorem warnDef_count : (warnDef s).count = s.count := rfl
@[simp] theorem warnDef_nval : (warnDef s).nval = s.nval := rfl
@[simp] theorem warnDef_waddr : (warnDef s).waddr = s.waddr := rfl
@[simp] theorem warnDef_txlen : (warnDef s).txlen = s.txlen := rfl
@[simp] theorem warnDef_explen : (warnDef s).explen = s.explen := rfl
@[simp] theorem warnDef_rxlen : (warnDef s).rxlen = s.rxlen := rfl
@[simp] theorem warnDef_rkind : (warnDef s).rkind = s.rkind := rfl
@[simp] theorem warnDef_rflags : (warnDef s).rflags = s.rflags := rfl
@[simp] theorem warnDef_rdev : (warnDef s).rdev = s.rdev := rfl
@[simp] theorem warnDef_rfunc : (warnDef s).rfunc = s.rfunc := rfl
@[simp] theorem warnDef_rcode : (warnDef s).rcode = s.rcode := rfl
@[simp] theorem warnDef_rmsg : (warnDef s).rmsg = s.rmsg := rfl
@[simp] theorem warnDef_rbc : (warnDef s).rbc = s.rbc := rfl
@[simp] theorem warnDef_regn : (warnDef s).regn = s.regn := rfl
@[simp] theorem warnDef_rwaddr : (warnDef s).rwaddr = s.rwaddr := rfl
@[simp] theorem warnDef_rwval : (warnDef s).rwval = s.rwval := rfl
@[simp] theorem warnDef_scalar : (warnDef s).scalar = s.scalar := rfl
@[simp] theorem warnDef_scalused : (warnDef s).scalused = s.scalused := rfl
@[simp] theorem warnDef_msrc : (warnDef s).msrc = s.msrc := rfl
@[simp] theorem warnDef_midx : (warnDef s).midx = s.midx := rfl
@[simp] theorem warnDef_acc : (warnDef s).acc = s.acc := rfl
@[simp] theorem warnDef_nfd : (warnDef s).nfd = s.nfd := rfl
@[simp] theorem warnDef_outn : (warnDef s).outn = s.outn := rfl
@[simp] theorem warnDef_val : (warnDef s).val = s.val := rfl
@[simp] theorem warnDef_txbuf : (warnDef s).txbuf = s.txbuf := rfl
@[simp] theorem warnDef_rxbuf : (warnDef s).rxbuf = s.rxbuf := rfl
@[simp] theorem warnDef_reg : (warnDef s).reg = s.reg := rfl
@[simp] theorem warnDef_man : (warnDef s).man = s.man := rfl
@[simp] theorem warnDef_mset : (warnDef s).mset = s.mset := rfl
@[simp] theorem warnDef_fd : (warnDef s).fd = s.fd := rfl
@[simp] theorem warnDef_out : (warnDef s).out = s.out := rfl
@[simp] theorem warnDef_prog : (warnDef s).prog = s.prog := rfl
@[simp] theorem warnDef_pc : (warnDef s).pc = s.pc := rfl
@[simp] theorem warnDef_rdata : (warnDef s).rdata = s.rdata := rfl
@[simp] theorem warnDef_params : (warnDef s).params = s.params := rfl

@[simp] theorem setScalv_cmd (b : Bool) : (setScalv b s).cmd = s.cmd := rfl
@[simp] theorem setScalv_status (b : Bool) : (setScalv b s).status = setBit s.status 1 b := rfl
@[simp] theorem setScalv_err (b : Bool) : (setScalv b s).err = s.err := rfl
@[simp] theorem setScalv_faults (b : Bool) : (setScalv b s).faults = s.faults := rfl
@[simp] theorem setScalv_cfg (b : Bool) : (setScalv b s).cfg = s.cfg := rfl
@[simp] theorem setScalv_defscalar (b : Bool) : (setScalv b s).defscalar = s.defscalar := rfl
@[simp] theorem setScalv_crc (b : Bool) : (setScalv b s).crc = s.crc := rfl
@[simp] theorem setScalv_devaddr (b : Bool) : (setScalv b s).devaddr = s.devaddr := rfl
@[simp] theorem setScalv_func (b : Bool) : (setScalv b s).func = s.func := rfl
@[simp] theorem setScalv_regaddr (b : Bool) : (setScalv b s).regaddr = s.regaddr := rfl
@[simp] theorem setScalv_count (b : Bool) : (setScalv b s).count = s.count := rfl
@[simp] theorem setScalv_nval (b : Bool) : (setScalv b s).nval = s.nval := rfl
@[simp] theorem setScalv_waddr (b : Bool) : (setScalv b s).waddr = s.waddr := rfl
@[simp] theorem setScalv_txlen (b : Bool) : (setScalv b s).txlen = s.txlen := rfl
@[simp] theorem setScalv_explen (b : Bool) : (setScalv b s).explen = s.explen := rfl
@[simp] theorem setScalv_rxlen (b : Bool) : (setScalv b s).rxlen = s.rxlen := rfl
@[simp] theorem setScalv_rkind (b : Bool) : (setScalv b s).rkind = s.rkind := rfl
@[simp] theorem setScalv_rflags (b : Bool) : (setScalv b s).rflags = s.rflags := rfl
@[simp] theorem setScalv_rdev (b : Bool) : (setScalv b s).rdev = s.rdev := rfl
@[simp] theorem setScalv_rfunc (b : Bool) : (setScalv b s).rfunc = s.rfunc := rfl
@[simp] theorem setScalv_rcode (b : Bool) : (setScalv b s).rcode = s.rcode := rfl
@[simp] theorem setScalv_rmsg (b : Bool) : (setScalv b s).rmsg = s.rmsg := rfl
@[simp] theorem setScalv_rbc (b : Bool) : (setScalv b s).rbc = s.rbc := rfl
@[simp] theorem setScalv_regn (b : Bool) : (setScalv b s).regn = s.regn := rfl
@[simp] theorem setScalv_rwaddr (b : Bool) : (setScalv b s).rwaddr = s.rwaddr := rfl
@[simp] theorem setScalv_rwval (b : Bool) : (setScalv b s).rwval = s.rwval := rfl
@[simp] theorem setScalv_scalar (b : Bool) : (setScalv b s).scalar = s.scalar := rfl
@[simp] theorem setScalv_scalused (b : Bool) : (setScalv b s).scalused = s.scalused := rfl
@[simp] theorem setScalv_msrc (b : Bool) : (setScalv b s).msrc = s.msrc := rfl
@[simp] theorem setScalv_midx (b : Bool) : (setScalv b s).midx = s.midx := rfl
@[simp] theorem setScalv_acc (b : Bool) : (setScalv b s).acc = s.acc := rfl
@[simp] theorem setScalv_nfd (b : Bool) : (setScalv b s).nfd = s.nfd := rfl
@[simp] theorem setScalv_outn (b : Bool) : (setScalv b s).outn = s.outn := rfl
@[simp] theorem setScalv_val (b : Bool) : (setScalv b s).val = s.val := rfl
@[simp] theorem setScalv_txbuf (b : Bool) : (setScalv b s).txbuf = s.txbuf := rfl
@[simp] theorem setScalv_rxbuf (b : Bool) : (setScalv b s).rxbuf = s.rxbuf := rfl
@[simp] theorem setScalv_reg (b : Bool) : (setScalv b s).reg = s.reg := rfl
@[simp] theorem setScalv_man (b : Bool) : (setScalv b s).man = s.man := rfl
@[simp] theorem setScalv_mset (b : Bool) : (setScalv b s).mset = s.mset := rfl
@[simp] theorem setScalv_fd (b : Bool) : (setScalv b s).fd = s.fd := rfl
@[simp] theorem setScalv_out (b : Bool) : (setScalv b s).out = s.out := rfl
@[simp] theorem setScalv_prog (b : Bool) : (setScalv b s).prog = s.prog := rfl
@[simp] theorem setScalv_pc (b : Bool) : (setScalv b s).pc = s.pc := rfl
@[simp] theorem setScalv_rdata (b : Bool) : (setScalv b s).rdata = s.rdata := rfl
@[simp] theorem setScalv_params (b : Bool) : (setScalv b s).params = s.params := rfl

@[simp] theorem setMsetv_cmd (b : Bool) : (setMsetv b s).cmd = s.cmd := rfl
@[simp] theorem setMsetv_status (b : Bool) : (setMsetv b s).status = setBit s.status 2 b := rfl
@[simp] theorem setMsetv_err (b : Bool) : (setMsetv b s).err = s.err := rfl
@[simp] theorem setMsetv_faults (b : Bool) : (setMsetv b s).faults = s.faults := rfl
@[simp] theorem setMsetv_cfg (b : Bool) : (setMsetv b s).cfg = s.cfg := rfl
@[simp] theorem setMsetv_defscalar (b : Bool) : (setMsetv b s).defscalar = s.defscalar := rfl
@[simp] theorem setMsetv_crc (b : Bool) : (setMsetv b s).crc = s.crc := rfl
@[simp] theorem setMsetv_devaddr (b : Bool) : (setMsetv b s).devaddr = s.devaddr := rfl
@[simp] theorem setMsetv_func (b : Bool) : (setMsetv b s).func = s.func := rfl
@[simp] theorem setMsetv_regaddr (b : Bool) : (setMsetv b s).regaddr = s.regaddr := rfl
@[simp] theorem setMsetv_count (b : Bool) : (setMsetv b s).count = s.count := rfl
@[simp] theorem setMsetv_nval (b : Bool) : (setMsetv b s).nval = s.nval := rfl
@[simp] theorem setMsetv_waddr (b : Bool) : (setMsetv b s).waddr = s.waddr := rfl
@[simp] theorem setMsetv_txlen (b : Bool) : (setMsetv b s).txlen = s.txlen := rfl
@[simp] theorem setMsetv_explen (b : Bool) : (setMsetv b s).explen = s.explen := rfl
@[simp] theorem setMsetv_rxlen (b : Bool) : (setMsetv b s).rxlen = s.rxlen := rfl
@[simp] theorem setMsetv_rkind (b : Bool) : (setMsetv b s).rkind = s.rkind := rfl
@[simp] theorem setMsetv_rflags (b : Bool) : (setMsetv b s).rflags = s.rflags := rfl
@[simp] theorem setMsetv_rdev (b : Bool) : (setMsetv b s).rdev = s.rdev := rfl
@[simp] theorem setMsetv_rfunc (b : Bool) : (setMsetv b s).rfunc = s.rfunc := rfl
@[simp] theorem setMsetv_rcode (b : Bool) : (setMsetv b s).rcode = s.rcode := rfl
@[simp] theorem setMsetv_rmsg (b : Bool) : (setMsetv b s).rmsg = s.rmsg := rfl
@[simp] theorem setMsetv_rbc (b : Bool) : (setMsetv b s).rbc = s.rbc := rfl
@[simp] theorem setMsetv_regn (b : Bool) : (setMsetv b s).regn = s.regn := rfl
@[simp] theorem setMsetv_rwaddr (b : Bool) : (setMsetv b s).rwaddr = s.rwaddr := rfl
@[simp] theorem setMsetv_rwval (b : Bool) : (setMsetv b s).rwval = s.rwval := rfl
@[simp] theorem setMsetv_scalar (b : Bool) : (setMsetv b s).scalar = s.scalar := rfl
@[simp] theorem setMsetv_scalused (b : Bool) : (setMsetv b s).scalused = s.scalused := rfl
@[simp] theorem setMsetv_msrc (b : Bool) : (setMsetv b s).msrc = s.msrc := rfl
@[simp] theorem setMsetv_midx (b : Bool) : (setMsetv b s).midx = s.midx := rfl
@[simp] theorem setMsetv_acc (b : Bool) : (setMsetv b s).acc = s.acc := rfl
@[simp] theorem setMsetv_nfd (b : Bool) : (setMsetv b s).nfd = s.nfd := rfl
@[simp] theorem setMsetv_outn (b : Bool) : (setMsetv b s).outn = s.outn := rfl
@[simp] theorem setMsetv_val (b : Bool) : (setMsetv b s).val = s.val := rfl
@[simp] theorem setMsetv_txbuf (b : Bool) : (setMsetv b s).txbuf = s.txbuf := rfl
@[simp] theorem setMsetv_rxbuf (b : Bool) : (setMsetv b s).rxbuf = s.rxbuf := rfl
@[simp] theorem setMsetv_reg (b : Bool) : (setMsetv b s).reg = s.reg := rfl
@[simp] theorem setMsetv_man (b : Bool) : (setMsetv b s).man = s.man := rfl
@[simp] theorem setMsetv_mset (b : Bool) : (setMsetv b s).mset = s.mset := rfl
@[simp] theorem setMsetv_fd (b : Bool) : (setMsetv b s).fd = s.fd := rfl
@[simp] theorem setMsetv_out (b : Bool) : (setMsetv b s).out = s.out := rfl
@[simp] theorem setMsetv_prog (b : Bool) : (setMsetv b s).prog = s.prog := rfl
@[simp] theorem setMsetv_pc (b : Bool) : (setMsetv b s).pc = s.pc := rfl
@[simp] theorem setMsetv_rdata (b : Bool) : (setMsetv b s).rdata = s.rdata := rfl
@[simp] theorem setMsetv_params (b : Bool) : (setMsetv b s).params = s.params := rfl

@[simp] theorem setAccv_cmd (b : Bool) : (setAccv b s).cmd = s.cmd := rfl
@[simp] theorem setAccv_status (b : Bool) : (setAccv b s).status = setBit s.status 3 b := rfl
@[simp] theorem setAccv_err (b : Bool) : (setAccv b s).err = s.err := rfl
@[simp] theorem setAccv_faults (b : Bool) : (setAccv b s).faults = s.faults := rfl
@[simp] theorem setAccv_cfg (b : Bool) : (setAccv b s).cfg = s.cfg := rfl
@[simp] theorem setAccv_defscalar (b : Bool) : (setAccv b s).defscalar = s.defscalar := rfl
@[simp] theorem setAccv_crc (b : Bool) : (setAccv b s).crc = s.crc := rfl
@[simp] theorem setAccv_devaddr (b : Bool) : (setAccv b s).devaddr = s.devaddr := rfl
@[simp] theorem setAccv_func (b : Bool) : (setAccv b s).func = s.func := rfl
@[simp] theorem setAccv_regaddr (b : Bool) : (setAccv b s).regaddr = s.regaddr := rfl
@[simp] theorem setAccv_count (b : Bool) : (setAccv b s).count = s.count := rfl
@[simp] theorem setAccv_nval (b : Bool) : (setAccv b s).nval = s.nval := rfl
@[simp] theorem setAccv_waddr (b : Bool) : (setAccv b s).waddr = s.waddr := rfl
@[simp] theorem setAccv_txlen (b : Bool) : (setAccv b s).txlen = s.txlen := rfl
@[simp] theorem setAccv_explen (b : Bool) : (setAccv b s).explen = s.explen := rfl
@[simp] theorem setAccv_rxlen (b : Bool) : (setAccv b s).rxlen = s.rxlen := rfl
@[simp] theorem setAccv_rkind (b : Bool) : (setAccv b s).rkind = s.rkind := rfl
@[simp] theorem setAccv_rflags (b : Bool) : (setAccv b s).rflags = s.rflags := rfl
@[simp] theorem setAccv_rdev (b : Bool) : (setAccv b s).rdev = s.rdev := rfl
@[simp] theorem setAccv_rfunc (b : Bool) : (setAccv b s).rfunc = s.rfunc := rfl
@[simp] theorem setAccv_rcode (b : Bool) : (setAccv b s).rcode = s.rcode := rfl
@[simp] theorem setAccv_rmsg (b : Bool) : (setAccv b s).rmsg = s.rmsg := rfl
@[simp] theorem setAccv_rbc (b : Bool) : (setAccv b s).rbc = s.rbc := rfl
@[simp] theorem setAccv_regn (b : Bool) : (setAccv b s).regn = s.regn := rfl
@[simp] theorem setAccv_rwaddr (b : Bool) : (setAccv b s).rwaddr = s.rwaddr := rfl
@[simp] theorem setAccv_rwval (b : Bool) : (setAccv b s).rwval = s.rwval := rfl
@[simp] theorem setAccv_scalar (b : Bool) : (setAccv b s).scalar = s.scalar := rfl
@[simp] theorem setAccv_scalused (b : Bool) : (setAccv b s).scalused = s.scalused := rfl
@[simp] theorem setAccv_msrc (b : Bool) : (setAccv b s).msrc = s.msrc := rfl
@[simp] theorem setAccv_midx (b : Bool) : (setAccv b s).midx = s.midx := rfl
@[simp] theorem setAccv_acc (b : Bool) : (setAccv b s).acc = s.acc := rfl
@[simp] theorem setAccv_nfd (b : Bool) : (setAccv b s).nfd = s.nfd := rfl
@[simp] theorem setAccv_outn (b : Bool) : (setAccv b s).outn = s.outn := rfl
@[simp] theorem setAccv_val (b : Bool) : (setAccv b s).val = s.val := rfl
@[simp] theorem setAccv_txbuf (b : Bool) : (setAccv b s).txbuf = s.txbuf := rfl
@[simp] theorem setAccv_rxbuf (b : Bool) : (setAccv b s).rxbuf = s.rxbuf := rfl
@[simp] theorem setAccv_reg (b : Bool) : (setAccv b s).reg = s.reg := rfl
@[simp] theorem setAccv_man (b : Bool) : (setAccv b s).man = s.man := rfl
@[simp] theorem setAccv_mset (b : Bool) : (setAccv b s).mset = s.mset := rfl
@[simp] theorem setAccv_fd (b : Bool) : (setAccv b s).fd = s.fd := rfl
@[simp] theorem setAccv_out (b : Bool) : (setAccv b s).out = s.out := rfl
@[simp] theorem setAccv_prog (b : Bool) : (setAccv b s).prog = s.prog := rfl
@[simp] theorem setAccv_pc (b : Bool) : (setAccv b s).pc = s.pc := rfl
@[simp] theorem setAccv_rdata (b : Bool) : (setAccv b s).rdata = s.rdata := rfl
@[simp] theorem setAccv_params (b : Bool) : (setAccv b s).params = s.params := rfl

@[simp] theorem setOutv_cmd (b : Bool) : (setOutv b s).cmd = s.cmd := rfl
@[simp] theorem setOutv_status (b : Bool) : (setOutv b s).status = setBit s.status 4 b := rfl
@[simp] theorem setOutv_err (b : Bool) : (setOutv b s).err = s.err := rfl
@[simp] theorem setOutv_faults (b : Bool) : (setOutv b s).faults = s.faults := rfl
@[simp] theorem setOutv_cfg (b : Bool) : (setOutv b s).cfg = s.cfg := rfl
@[simp] theorem setOutv_defscalar (b : Bool) : (setOutv b s).defscalar = s.defscalar := rfl
@[simp] theorem setOutv_crc (b : Bool) : (setOutv b s).crc = s.crc := rfl
@[simp] theorem setOutv_devaddr (b : Bool) : (setOutv b s).devaddr = s.devaddr := rfl
@[simp] theorem setOutv_func (b : Bool) : (setOutv b s).func = s.func := rfl
@[simp] theorem setOutv_regaddr (b : Bool) : (setOutv b s).regaddr = s.regaddr := rfl
@[simp] theorem setOutv_count (b : Bool) : (setOutv b s).count = s.count := rfl
@[simp] theorem setOutv_nval (b : Bool) : (setOutv b s).nval = s.nval := rfl
@[simp] theorem setOutv_waddr (b : Bool) : (setOutv b s).waddr = s.waddr := rfl
@[simp] theorem setOutv_txlen (b : Bool) : (setOutv b s).txlen = s.txlen := rfl
@[simp] theorem setOutv_explen (b : Bool) : (setOutv b s).explen = s.explen := rfl
@[simp] theorem setOutv_rxlen (b : Bool) : (setOutv b s).rxlen = s.rxlen := rfl
@[simp] theorem setOutv_rkind (b : Bool) : (setOutv b s).rkind = s.rkind := rfl
@[simp] theorem setOutv_rflags (b : Bool) : (setOutv b s).rflags = s.rflags := rfl
@[simp] theorem setOutv_rdev (b : Bool) : (setOutv b s).rdev = s.rdev := rfl
@[simp] theorem setOutv_rfunc (b : Bool) : (setOutv b s).rfunc = s.rfunc := rfl
@[simp] theorem setOutv_rcode (b : Bool) : (setOutv b s).rcode = s.rcode := rfl
@[simp] theorem setOutv_rmsg (b : Bool) : (setOutv b s).rmsg = s.rmsg := rfl
@[simp] theorem setOutv_rbc (b : Bool) : (setOutv b s).rbc = s.rbc := rfl
@[simp] theorem setOutv_regn (b : Bool) : (setOutv b s).regn = s.regn := rfl
@[simp] theorem setOutv_rwaddr (b : Bool) : (setOutv b s).rwaddr = s.rwaddr := rfl
@[simp] theorem setOutv_rwval (b : Bool) : (setOutv b s).rwval = s.rwval := rfl
@[simp] theorem setOutv_scalar (b : Bool) : (setOutv b s).scalar = s.scalar := rfl
@[simp] theorem setOutv_scalused (b : Bool) : (setOutv b s).scalused = s.scalused := rfl
@[simp] theorem setOutv_msrc (b : Bool) : (setOutv b s).msrc = s.msrc := rfl
@[simp] theorem setOutv_midx (b : Bool) : (setOutv b s).midx = s.midx := rfl
@[simp] theorem setOutv_acc (b : Bool) : (setOutv b s).acc = s.acc := rfl
@[simp] theorem setOutv_nfd (b : Bool) : (setOutv b s).nfd = s.nfd := rfl
@[simp] theorem setOutv_outn (b : Bool) : (setOutv b s).outn = s.outn := rfl
@[simp] theorem setOutv_val (b : Bool) : (setOutv b s).val = s.val := rfl
@[simp] theorem setOutv_txbuf (b : Bool) : (setOutv b s).txbuf = s.txbuf := rfl
@[simp] theorem setOutv_rxbuf (b : Bool) : (setOutv b s).rxbuf = s.rxbuf := rfl
@[simp] theorem setOutv_reg (b : Bool) : (setOutv b s).reg = s.reg := rfl
@[simp] theorem setOutv_man (b : Bool) : (setOutv b s).man = s.man := rfl
@[simp] theorem setOutv_mset (b : Bool) : (setOutv b s).mset = s.mset := rfl
@[simp] theorem setOutv_fd (b : Bool) : (setOutv b s).fd = s.fd := rfl
@[simp] theorem setOutv_out (b : Bool) : (setOutv b s).out = s.out := rfl
@[simp] theorem setOutv_prog (b : Bool) : (setOutv b s).prog = s.prog := rfl
@[simp] theorem setOutv_pc (b : Bool) : (setOutv b s).pc = s.pc := rfl
@[simp] theorem setOutv_rdata (b : Bool) : (setOutv b s).rdata = s.rdata := rfl
@[simp] theorem setOutv_params (b : Bool) : (setOutv b s).params = s.params := rfl

@[simp] theorem setScaldef_cmd (b : Bool) : (setScaldef b s).cmd = s.cmd := rfl
@[simp] theorem setScaldef_status (b : Bool) : (setScaldef b s).status = setBit s.status 5 b := rfl
@[simp] theorem setScaldef_err (b : Bool) : (setScaldef b s).err = s.err := rfl
@[simp] theorem setScaldef_faults (b : Bool) : (setScaldef b s).faults = s.faults := rfl
@[simp] theorem setScaldef_cfg (b : Bool) : (setScaldef b s).cfg = s.cfg := rfl
@[simp] theorem setScaldef_defscalar (b : Bool) : (setScaldef b s).defscalar = s.defscalar := rfl
@[simp] theorem setScaldef_crc (b : Bool) : (setScaldef b s).crc = s.crc := rfl
@[simp] theorem setScaldef_devaddr (b : Bool) : (setScaldef b s).devaddr = s.devaddr := rfl
@[simp] theorem setScaldef_func (b : Bool) : (setScaldef b s).func = s.func := rfl
@[simp] theorem setScaldef_regaddr (b : Bool) : (setScaldef b s).regaddr = s.regaddr := rfl
@[simp] theorem setScaldef_count (b : Bool) : (setScaldef b s).count = s.count := rfl
@[simp] theorem setScaldef_nval (b : Bool) : (setScaldef b s).nval = s.nval := rfl
@[simp] theorem setScaldef_waddr (b : Bool) : (setScaldef b s).waddr = s.waddr := rfl
@[simp] theorem setScaldef_txlen (b : Bool) : (setScaldef b s).txlen = s.txlen := rfl
@[simp] theorem setScaldef_explen (b : Bool) : (setScaldef b s).explen = s.explen := rfl
@[simp] theorem setScaldef_rxlen (b : Bool) : (setScaldef b s).rxlen = s.rxlen := rfl
@[simp] theorem setScaldef_rkind (b : Bool) : (setScaldef b s).rkind = s.rkind := rfl
@[simp] theorem setScaldef_rflags (b : Bool) : (setScaldef b s).rflags = s.rflags := rfl
@[simp] theorem setScaldef_rdev (b : Bool) : (setScaldef b s).rdev = s.rdev := rfl
@[simp] theorem setScaldef_rfunc (b : Bool) : (setScaldef b s).rfunc = s.rfunc := rfl
@[simp] theorem setScaldef_rcode (b : Bool) : (setScaldef b s).rcode = s.rcode := rfl
@[simp] theorem setScaldef_rmsg (b : Bool) : (setScaldef b s).rmsg = s.rmsg := rfl
@[simp] theorem setScaldef_rbc (b : Bool) : (setScaldef b s).rbc = s.rbc := rfl
@[simp] theorem setScaldef_regn (b : Bool) : (setScaldef b s).regn = s.regn := rfl
@[simp] theorem setScaldef_rwaddr (b : Bool) : (setScaldef b s).rwaddr = s.rwaddr := rfl
@[simp] theorem setScaldef_rwval (b : Bool) : (setScaldef b s).rwval = s.rwval := rfl
@[simp] theorem setScaldef_scalar (b : Bool) : (setScaldef b s).scalar = s.scalar := rfl
@[simp] theorem setScaldef_scalused (b : Bool) : (setScaldef b s).scalused = s.scalused := rfl
@[simp] theorem setScaldef_msrc (b : Bool) : (setScaldef b s).msrc = s.msrc := rfl
@[simp] theorem setScaldef_midx (b : Bool) : (setScaldef b s).midx = s.midx := rfl
@[simp] theorem setScaldef_acc (b : Bool) : (setScaldef b s).acc = s.acc := rfl
@[simp] theorem setScaldef_nfd (b : Bool) : (setScaldef b s).nfd = s.nfd := rfl
@[simp] theorem setScaldef_outn (b : Bool) : (setScaldef b s).outn = s.outn := rfl
@[simp] theorem setScaldef_val (b : Bool) : (setScaldef b s).val = s.val := rfl
@[simp] theorem setScaldef_txbuf (b : Bool) : (setScaldef b s).txbuf = s.txbuf := rfl
@[simp] theorem setScaldef_rxbuf (b : Bool) : (setScaldef b s).rxbuf = s.rxbuf := rfl
@[simp] theorem setScaldef_reg (b : Bool) : (setScaldef b s).reg = s.reg := rfl
@[simp] theorem setScaldef_man (b : Bool) : (setScaldef b s).man = s.man := rfl
@[simp] theorem setScaldef_mset (b : Bool) : (setScaldef b s).mset = s.mset := rfl
@[simp] theorem setScaldef_fd (b : Bool) : (setScaldef b s).fd = s.fd := rfl
@[simp] theorem setScaldef_out (b : Bool) : (setScaldef b s).out = s.out := rfl
@[simp] theorem setScaldef_prog (b : Bool) : (setScaldef b s).prog = s.prog := rfl
@[simp] theorem setScaldef_pc (b : Bool) : (setScaldef b s).pc = s.pc := rfl
@[simp] theorem setScaldef_rdata (b : Bool) : (setScaldef b s).rdata = s.rdata := rfl
@[simp] theorem setScaldef_params (b : Bool) : (setScaldef b s).params = s.params := rfl

@[simp] theorem setEchoMatch_cmd (b : Bool) : (setEchoMatch b s).cmd = s.cmd := rfl
@[simp] theorem setEchoMatch_status (b : Bool) : (setEchoMatch b s).status = s.status := rfl
@[simp] theorem setEchoMatch_err (b : Bool) : (setEchoMatch b s).err = s.err := rfl
@[simp] theorem setEchoMatch_faults (b : Bool) : (setEchoMatch b s).faults = s.faults := rfl
@[simp] theorem setEchoMatch_cfg (b : Bool) : (setEchoMatch b s).cfg = s.cfg := rfl
@[simp] theorem setEchoMatch_defscalar (b : Bool) : (setEchoMatch b s).defscalar = s.defscalar := rfl
@[simp] theorem setEchoMatch_crc (b : Bool) : (setEchoMatch b s).crc = s.crc := rfl
@[simp] theorem setEchoMatch_devaddr (b : Bool) : (setEchoMatch b s).devaddr = s.devaddr := rfl
@[simp] theorem setEchoMatch_func (b : Bool) : (setEchoMatch b s).func = s.func := rfl
@[simp] theorem setEchoMatch_regaddr (b : Bool) : (setEchoMatch b s).regaddr = s.regaddr := rfl
@[simp] theorem setEchoMatch_count (b : Bool) : (setEchoMatch b s).count = s.count := rfl
@[simp] theorem setEchoMatch_nval (b : Bool) : (setEchoMatch b s).nval = s.nval := rfl
@[simp] theorem setEchoMatch_waddr (b : Bool) : (setEchoMatch b s).waddr = s.waddr := rfl
@[simp] theorem setEchoMatch_txlen (b : Bool) : (setEchoMatch b s).txlen = s.txlen := rfl
@[simp] theorem setEchoMatch_explen (b : Bool) : (setEchoMatch b s).explen = s.explen := rfl
@[simp] theorem setEchoMatch_rxlen (b : Bool) : (setEchoMatch b s).rxlen = s.rxlen := rfl
@[simp] theorem setEchoMatch_rkind (b : Bool) : (setEchoMatch b s).rkind = s.rkind := rfl
@[simp] theorem setEchoMatch_rflags (b : Bool) : (setEchoMatch b s).rflags = setBit s.rflags 3 b := rfl
@[simp] theorem setEchoMatch_rdev (b : Bool) : (setEchoMatch b s).rdev = s.rdev := rfl
@[simp] theorem setEchoMatch_rfunc (b : Bool) : (setEchoMatch b s).rfunc = s.rfunc := rfl
@[simp] theorem setEchoMatch_rcode (b : Bool) : (setEchoMatch b s).rcode = s.rcode := rfl
@[simp] theorem setEchoMatch_rmsg (b : Bool) : (setEchoMatch b s).rmsg = s.rmsg := rfl
@[simp] theorem setEchoMatch_rbc (b : Bool) : (setEchoMatch b s).rbc = s.rbc := rfl
@[simp] theorem setEchoMatch_regn (b : Bool) : (setEchoMatch b s).regn = s.regn := rfl
@[simp] theorem setEchoMatch_rwaddr (b : Bool) : (setEchoMatch b s).rwaddr = s.rwaddr := rfl
@[simp] theorem setEchoMatch_rwval (b : Bool) : (setEchoMatch b s).rwval = s.rwval := rfl
@[simp] theorem setEchoMatch_scalar (b : Bool) : (setEchoMatch b s).scalar = s.scalar := rfl
@[simp] theorem setEchoMatch_scalused (b : Bool) : (setEchoMatch b s).scalused = s.scalused := rfl
@[simp] theorem setEchoMatch_msrc (b : Bool) : (setEchoMatch b s).msrc = s.msrc := rfl
@[simp] theorem setEchoMatch_midx (b : Bool) : (setEchoMatch b s).midx = s.midx := rfl
@[simp] theorem setEchoMatch_acc (b : Bool) : (setEchoMatch b s).acc = s.acc := rfl
@[simp] theorem setEchoMatch_nfd (b : Bool) : (setEchoMatch b s).nfd = s.nfd := rfl
@[simp] theorem setEchoMatch_outn (b : Bool) : (setEchoMatch b s).outn = s.outn := rfl
@[simp] theorem setEchoMatch_val (b : Bool) : (setEchoMatch b s).val = s.val := rfl
@[simp] theorem setEchoMatch_txbuf (b : Bool) : (setEchoMatch b s).txbuf = s.txbuf := rfl
@[simp] theorem setEchoMatch_rxbuf (b : Bool) : (setEchoMatch b s).rxbuf = s.rxbuf := rfl
@[simp] theorem setEchoMatch_reg (b : Bool) : (setEchoMatch b s).reg = s.reg := rfl
@[simp] theorem setEchoMatch_man (b : Bool) : (setEchoMatch b s).man = s.man := rfl
@[simp] theorem setEchoMatch_mset (b : Bool) : (setEchoMatch b s).mset = s.mset := rfl
@[simp] theorem setEchoMatch_fd (b : Bool) : (setEchoMatch b s).fd = s.fd := rfl
@[simp] theorem setEchoMatch_out (b : Bool) : (setEchoMatch b s).out = s.out := rfl
@[simp] theorem setEchoMatch_prog (b : Bool) : (setEchoMatch b s).prog = s.prog := rfl
@[simp] theorem setEchoMatch_pc (b : Bool) : (setEchoMatch b s).pc = s.pc := rfl
@[simp] theorem setEchoMatch_rdata (b : Bool) : (setEchoMatch b s).rdata = s.rdata := rfl
@[simp] theorem setEchoMatch_params (b : Bool) : (setEchoMatch b s).params = s.params := rfl

@[simp] theorem clearFaults_cmd (w : Word) : (clearFaults w s).cmd = s.cmd := rfl
@[simp] theorem clearFaults_status (w : Word) : (clearFaults w s).status = s.status := rfl
@[simp] theorem clearFaults_err (w : Word) : (clearFaults w s).err = s.err := rfl
@[simp] theorem clearFaults_faults (w : Word) : (clearFaults w s).faults = s.faults &&& ~~~w.setWidth 16 := rfl
@[simp] theorem clearFaults_cfg (w : Word) : (clearFaults w s).cfg = s.cfg := rfl
@[simp] theorem clearFaults_defscalar (w : Word) : (clearFaults w s).defscalar = s.defscalar := rfl
@[simp] theorem clearFaults_crc (w : Word) : (clearFaults w s).crc = s.crc := rfl
@[simp] theorem clearFaults_devaddr (w : Word) : (clearFaults w s).devaddr = s.devaddr := rfl
@[simp] theorem clearFaults_func (w : Word) : (clearFaults w s).func = s.func := rfl
@[simp] theorem clearFaults_regaddr (w : Word) : (clearFaults w s).regaddr = s.regaddr := rfl
@[simp] theorem clearFaults_count (w : Word) : (clearFaults w s).count = s.count := rfl
@[simp] theorem clearFaults_nval (w : Word) : (clearFaults w s).nval = s.nval := rfl
@[simp] theorem clearFaults_waddr (w : Word) : (clearFaults w s).waddr = s.waddr := rfl
@[simp] theorem clearFaults_txlen (w : Word) : (clearFaults w s).txlen = s.txlen := rfl
@[simp] theorem clearFaults_explen (w : Word) : (clearFaults w s).explen = s.explen := rfl
@[simp] theorem clearFaults_rxlen (w : Word) : (clearFaults w s).rxlen = s.rxlen := rfl
@[simp] theorem clearFaults_rkind (w : Word) : (clearFaults w s).rkind = s.rkind := rfl
@[simp] theorem clearFaults_rflags (w : Word) : (clearFaults w s).rflags = s.rflags := rfl
@[simp] theorem clearFaults_rdev (w : Word) : (clearFaults w s).rdev = s.rdev := rfl
@[simp] theorem clearFaults_rfunc (w : Word) : (clearFaults w s).rfunc = s.rfunc := rfl
@[simp] theorem clearFaults_rcode (w : Word) : (clearFaults w s).rcode = s.rcode := rfl
@[simp] theorem clearFaults_rmsg (w : Word) : (clearFaults w s).rmsg = s.rmsg := rfl
@[simp] theorem clearFaults_rbc (w : Word) : (clearFaults w s).rbc = s.rbc := rfl
@[simp] theorem clearFaults_regn (w : Word) : (clearFaults w s).regn = s.regn := rfl
@[simp] theorem clearFaults_rwaddr (w : Word) : (clearFaults w s).rwaddr = s.rwaddr := rfl
@[simp] theorem clearFaults_rwval (w : Word) : (clearFaults w s).rwval = s.rwval := rfl
@[simp] theorem clearFaults_scalar (w : Word) : (clearFaults w s).scalar = s.scalar := rfl
@[simp] theorem clearFaults_scalused (w : Word) : (clearFaults w s).scalused = s.scalused := rfl
@[simp] theorem clearFaults_msrc (w : Word) : (clearFaults w s).msrc = s.msrc := rfl
@[simp] theorem clearFaults_midx (w : Word) : (clearFaults w s).midx = s.midx := rfl
@[simp] theorem clearFaults_acc (w : Word) : (clearFaults w s).acc = s.acc := rfl
@[simp] theorem clearFaults_nfd (w : Word) : (clearFaults w s).nfd = s.nfd := rfl
@[simp] theorem clearFaults_outn (w : Word) : (clearFaults w s).outn = s.outn := rfl
@[simp] theorem clearFaults_val (w : Word) : (clearFaults w s).val = s.val := rfl
@[simp] theorem clearFaults_txbuf (w : Word) : (clearFaults w s).txbuf = s.txbuf := rfl
@[simp] theorem clearFaults_rxbuf (w : Word) : (clearFaults w s).rxbuf = s.rxbuf := rfl
@[simp] theorem clearFaults_reg (w : Word) : (clearFaults w s).reg = s.reg := rfl
@[simp] theorem clearFaults_man (w : Word) : (clearFaults w s).man = s.man := rfl
@[simp] theorem clearFaults_mset (w : Word) : (clearFaults w s).mset = s.mset := rfl
@[simp] theorem clearFaults_fd (w : Word) : (clearFaults w s).fd = s.fd := rfl
@[simp] theorem clearFaults_out (w : Word) : (clearFaults w s).out = s.out := rfl
@[simp] theorem clearFaults_prog (w : Word) : (clearFaults w s).prog = s.prog := rfl
@[simp] theorem clearFaults_pc (w : Word) : (clearFaults w s).pc = s.pc := rfl
@[simp] theorem clearFaults_rdata (w : Word) : (clearFaults w s).rdata = s.rdata := rfl
@[simp] theorem clearFaults_params (w : Word) : (clearFaults w s).params = s.params := rfl

@[simp] theorem setTxFrame_cmd (l : List Byte) : (setTxFrame l s).cmd = s.cmd := rfl
@[simp] theorem setTxFrame_status (l : List Byte) : (setTxFrame l s).status = s.status := rfl
@[simp] theorem setTxFrame_err (l : List Byte) : (setTxFrame l s).err = s.err := rfl
@[simp] theorem setTxFrame_faults (l : List Byte) : (setTxFrame l s).faults = s.faults := rfl
@[simp] theorem setTxFrame_cfg (l : List Byte) : (setTxFrame l s).cfg = s.cfg := rfl
@[simp] theorem setTxFrame_defscalar (l : List Byte) : (setTxFrame l s).defscalar = s.defscalar := rfl
@[simp] theorem setTxFrame_crc (l : List Byte) : (setTxFrame l s).crc = s.crc := rfl
@[simp] theorem setTxFrame_devaddr (l : List Byte) : (setTxFrame l s).devaddr = s.devaddr := rfl
@[simp] theorem setTxFrame_func (l : List Byte) : (setTxFrame l s).func = s.func := rfl
@[simp] theorem setTxFrame_regaddr (l : List Byte) : (setTxFrame l s).regaddr = s.regaddr := rfl
@[simp] theorem setTxFrame_count (l : List Byte) : (setTxFrame l s).count = s.count := rfl
@[simp] theorem setTxFrame_nval (l : List Byte) : (setTxFrame l s).nval = s.nval := rfl
@[simp] theorem setTxFrame_waddr (l : List Byte) : (setTxFrame l s).waddr = s.waddr := rfl
@[simp] theorem setTxFrame_txlen (l : List Byte) : (setTxFrame l s).txlen = BitVec.ofNat 32 l.length := rfl
@[simp] theorem setTxFrame_explen (l : List Byte) : (setTxFrame l s).explen = s.explen := rfl
@[simp] theorem setTxFrame_rxlen (l : List Byte) : (setTxFrame l s).rxlen = s.rxlen := rfl
@[simp] theorem setTxFrame_rkind (l : List Byte) : (setTxFrame l s).rkind = s.rkind := rfl
@[simp] theorem setTxFrame_rflags (l : List Byte) : (setTxFrame l s).rflags = s.rflags := rfl
@[simp] theorem setTxFrame_rdev (l : List Byte) : (setTxFrame l s).rdev = s.rdev := rfl
@[simp] theorem setTxFrame_rfunc (l : List Byte) : (setTxFrame l s).rfunc = s.rfunc := rfl
@[simp] theorem setTxFrame_rcode (l : List Byte) : (setTxFrame l s).rcode = s.rcode := rfl
@[simp] theorem setTxFrame_rmsg (l : List Byte) : (setTxFrame l s).rmsg = s.rmsg := rfl
@[simp] theorem setTxFrame_rbc (l : List Byte) : (setTxFrame l s).rbc = s.rbc := rfl
@[simp] theorem setTxFrame_regn (l : List Byte) : (setTxFrame l s).regn = s.regn := rfl
@[simp] theorem setTxFrame_rwaddr (l : List Byte) : (setTxFrame l s).rwaddr = s.rwaddr := rfl
@[simp] theorem setTxFrame_rwval (l : List Byte) : (setTxFrame l s).rwval = s.rwval := rfl
@[simp] theorem setTxFrame_scalar (l : List Byte) : (setTxFrame l s).scalar = s.scalar := rfl
@[simp] theorem setTxFrame_scalused (l : List Byte) : (setTxFrame l s).scalused = s.scalused := rfl
@[simp] theorem setTxFrame_msrc (l : List Byte) : (setTxFrame l s).msrc = s.msrc := rfl
@[simp] theorem setTxFrame_midx (l : List Byte) : (setTxFrame l s).midx = s.midx := rfl
@[simp] theorem setTxFrame_acc (l : List Byte) : (setTxFrame l s).acc = s.acc := rfl
@[simp] theorem setTxFrame_nfd (l : List Byte) : (setTxFrame l s).nfd = s.nfd := rfl
@[simp] theorem setTxFrame_outn (l : List Byte) : (setTxFrame l s).outn = s.outn := rfl
@[simp] theorem setTxFrame_val (l : List Byte) : (setTxFrame l s).val = s.val := rfl
@[simp] theorem setTxFrame_txbuf (l : List Byte) : (setTxFrame l s).txbuf = putAll s.txbuf 0 l := rfl
@[simp] theorem setTxFrame_rxbuf (l : List Byte) : (setTxFrame l s).rxbuf = s.rxbuf := rfl
@[simp] theorem setTxFrame_reg (l : List Byte) : (setTxFrame l s).reg = s.reg := rfl
@[simp] theorem setTxFrame_man (l : List Byte) : (setTxFrame l s).man = s.man := rfl
@[simp] theorem setTxFrame_mset (l : List Byte) : (setTxFrame l s).mset = s.mset := rfl
@[simp] theorem setTxFrame_fd (l : List Byte) : (setTxFrame l s).fd = s.fd := rfl
@[simp] theorem setTxFrame_out (l : List Byte) : (setTxFrame l s).out = s.out := rfl
@[simp] theorem setTxFrame_prog (l : List Byte) : (setTxFrame l s).prog = s.prog := rfl
@[simp] theorem setTxFrame_pc (l : List Byte) : (setTxFrame l s).pc = s.pc := rfl
@[simp] theorem setTxFrame_rdata (l : List Byte) : (setTxFrame l s).rdata = s.rdata := rfl
@[simp] theorem setTxFrame_params (l : List Byte) : (setTxFrame l s).params = s.params := rfl

@[simp] theorem setRxFrame_cmd (l : List Byte) : (setRxFrame l s).cmd = s.cmd := rfl
@[simp] theorem setRxFrame_status (l : List Byte) : (setRxFrame l s).status = s.status := rfl
@[simp] theorem setRxFrame_err (l : List Byte) : (setRxFrame l s).err = s.err := rfl
@[simp] theorem setRxFrame_faults (l : List Byte) : (setRxFrame l s).faults = s.faults := rfl
@[simp] theorem setRxFrame_cfg (l : List Byte) : (setRxFrame l s).cfg = s.cfg := rfl
@[simp] theorem setRxFrame_defscalar (l : List Byte) : (setRxFrame l s).defscalar = s.defscalar := rfl
@[simp] theorem setRxFrame_crc (l : List Byte) : (setRxFrame l s).crc = s.crc := rfl
@[simp] theorem setRxFrame_devaddr (l : List Byte) : (setRxFrame l s).devaddr = s.devaddr := rfl
@[simp] theorem setRxFrame_func (l : List Byte) : (setRxFrame l s).func = s.func := rfl
@[simp] theorem setRxFrame_regaddr (l : List Byte) : (setRxFrame l s).regaddr = s.regaddr := rfl
@[simp] theorem setRxFrame_count (l : List Byte) : (setRxFrame l s).count = s.count := rfl
@[simp] theorem setRxFrame_nval (l : List Byte) : (setRxFrame l s).nval = s.nval := rfl
@[simp] theorem setRxFrame_waddr (l : List Byte) : (setRxFrame l s).waddr = s.waddr := rfl
@[simp] theorem setRxFrame_txlen (l : List Byte) : (setRxFrame l s).txlen = s.txlen := rfl
@[simp] theorem setRxFrame_explen (l : List Byte) : (setRxFrame l s).explen = s.explen := rfl
@[simp] theorem setRxFrame_rxlen (l : List Byte) : (setRxFrame l s).rxlen = BitVec.ofNat 32 l.length := rfl
@[simp] theorem setRxFrame_rkind (l : List Byte) : (setRxFrame l s).rkind = s.rkind := rfl
@[simp] theorem setRxFrame_rflags (l : List Byte) : (setRxFrame l s).rflags = s.rflags := rfl
@[simp] theorem setRxFrame_rdev (l : List Byte) : (setRxFrame l s).rdev = s.rdev := rfl
@[simp] theorem setRxFrame_rfunc (l : List Byte) : (setRxFrame l s).rfunc = s.rfunc := rfl
@[simp] theorem setRxFrame_rcode (l : List Byte) : (setRxFrame l s).rcode = s.rcode := rfl
@[simp] theorem setRxFrame_rmsg (l : List Byte) : (setRxFrame l s).rmsg = s.rmsg := rfl
@[simp] theorem setRxFrame_rbc (l : List Byte) : (setRxFrame l s).rbc = s.rbc := rfl
@[simp] theorem setRxFrame_regn (l : List Byte) : (setRxFrame l s).regn = s.regn := rfl
@[simp] theorem setRxFrame_rwaddr (l : List Byte) : (setRxFrame l s).rwaddr = s.rwaddr := rfl
@[simp] theorem setRxFrame_rwval (l : List Byte) : (setRxFrame l s).rwval = s.rwval := rfl
@[simp] theorem setRxFrame_scalar (l : List Byte) : (setRxFrame l s).scalar = s.scalar := rfl
@[simp] theorem setRxFrame_scalused (l : List Byte) : (setRxFrame l s).scalused = s.scalused := rfl
@[simp] theorem setRxFrame_msrc (l : List Byte) : (setRxFrame l s).msrc = s.msrc := rfl
@[simp] theorem setRxFrame_midx (l : List Byte) : (setRxFrame l s).midx = s.midx := rfl
@[simp] theorem setRxFrame_acc (l : List Byte) : (setRxFrame l s).acc = s.acc := rfl
@[simp] theorem setRxFrame_nfd (l : List Byte) : (setRxFrame l s).nfd = s.nfd := rfl
@[simp] theorem setRxFrame_outn (l : List Byte) : (setRxFrame l s).outn = s.outn := rfl
@[simp] theorem setRxFrame_val (l : List Byte) : (setRxFrame l s).val = s.val := rfl
@[simp] theorem setRxFrame_txbuf (l : List Byte) : (setRxFrame l s).txbuf = s.txbuf := rfl
@[simp] theorem setRxFrame_rxbuf (l : List Byte) : (setRxFrame l s).rxbuf = putAll s.rxbuf 0 l := rfl
@[simp] theorem setRxFrame_reg (l : List Byte) : (setRxFrame l s).reg = s.reg := rfl
@[simp] theorem setRxFrame_man (l : List Byte) : (setRxFrame l s).man = s.man := rfl
@[simp] theorem setRxFrame_mset (l : List Byte) : (setRxFrame l s).mset = s.mset := rfl
@[simp] theorem setRxFrame_fd (l : List Byte) : (setRxFrame l s).fd = s.fd := rfl
@[simp] theorem setRxFrame_out (l : List Byte) : (setRxFrame l s).out = s.out := rfl
@[simp] theorem setRxFrame_prog (l : List Byte) : (setRxFrame l s).prog = s.prog := rfl
@[simp] theorem setRxFrame_pc (l : List Byte) : (setRxFrame l s).pc = s.pc := rfl
@[simp] theorem setRxFrame_rdata (l : List Byte) : (setRxFrame l s).rdata = s.rdata := rfl
@[simp] theorem setRxFrame_params (l : List Byte) : (setRxFrame l s).params = s.params := rfl

@[simp] theorem advance_cmd : (advance s).cmd = s.cmd := rfl
@[simp] theorem advance_status : (advance s).status = s.status := rfl
@[simp] theorem advance_err : (advance s).err = s.err := rfl
@[simp] theorem advance_faults : (advance s).faults = s.faults := rfl
@[simp] theorem advance_cfg : (advance s).cfg = s.cfg := rfl
@[simp] theorem advance_defscalar : (advance s).defscalar = s.defscalar := rfl
@[simp] theorem advance_crc : (advance s).crc = s.crc := rfl
@[simp] theorem advance_devaddr : (advance s).devaddr = s.devaddr := rfl
@[simp] theorem advance_func : (advance s).func = s.func := rfl
@[simp] theorem advance_regaddr : (advance s).regaddr = s.regaddr := rfl
@[simp] theorem advance_count : (advance s).count = s.count := rfl
@[simp] theorem advance_nval : (advance s).nval = s.nval := rfl
@[simp] theorem advance_waddr : (advance s).waddr = s.waddr := rfl
@[simp] theorem advance_txlen : (advance s).txlen = s.txlen := rfl
@[simp] theorem advance_explen : (advance s).explen = s.explen := rfl
@[simp] theorem advance_rxlen : (advance s).rxlen = s.rxlen := rfl
@[simp] theorem advance_rkind : (advance s).rkind = s.rkind := rfl
@[simp] theorem advance_rflags : (advance s).rflags = s.rflags := rfl
@[simp] theorem advance_rdev : (advance s).rdev = s.rdev := rfl
@[simp] theorem advance_rfunc : (advance s).rfunc = s.rfunc := rfl
@[simp] theorem advance_rcode : (advance s).rcode = s.rcode := rfl
@[simp] theorem advance_rmsg : (advance s).rmsg = s.rmsg := rfl
@[simp] theorem advance_rbc : (advance s).rbc = s.rbc := rfl
@[simp] theorem advance_regn : (advance s).regn = s.regn := rfl
@[simp] theorem advance_rwaddr : (advance s).rwaddr = s.rwaddr := rfl
@[simp] theorem advance_rwval : (advance s).rwval = s.rwval := rfl
@[simp] theorem advance_scalar : (advance s).scalar = s.scalar := rfl
@[simp] theorem advance_scalused : (advance s).scalused = s.scalused := rfl
@[simp] theorem advance_msrc : (advance s).msrc = s.msrc := rfl
@[simp] theorem advance_midx : (advance s).midx = s.midx := rfl
@[simp] theorem advance_acc : (advance s).acc = s.acc := rfl
@[simp] theorem advance_nfd : (advance s).nfd = s.nfd := rfl
@[simp] theorem advance_outn : (advance s).outn = s.outn := rfl
@[simp] theorem advance_val : (advance s).val = s.val := rfl
@[simp] theorem advance_txbuf : (advance s).txbuf = s.txbuf := rfl
@[simp] theorem advance_rxbuf : (advance s).rxbuf = s.rxbuf := rfl
@[simp] theorem advance_reg : (advance s).reg = s.reg := rfl
@[simp] theorem advance_man : (advance s).man = s.man := rfl
@[simp] theorem advance_mset : (advance s).mset = s.mset := rfl
@[simp] theorem advance_fd : (advance s).fd = s.fd := rfl
@[simp] theorem advance_out : (advance s).out = s.out := rfl
@[simp] theorem advance_prog : (advance s).prog = s.prog := rfl
@[simp] theorem advance_pc : (advance s).pc = s.pc + 1 := rfl
@[simp] theorem advance_rdata : (advance s).rdata = s.rdata := rfl
@[simp] theorem advance_params : (advance s).params = s.params := rfl

end Sys2Proof.Machine
end

