-- ==== Sys2Proof/Laws/Effects.lean ====
section
/-! SUPPORT. For each operation, one equation that says which registers it may have written (10_state.md R48): every
register the equation does not name is as before. -/

namespace Sys2Proof.Machine

variable (s : State)

/-- `raise` writes `ERR` and one bit of `FAULTS` (60_exceptions.md R255). -/
theorem raise_eq (e : ErrCode) :
    raise e s = { s with err := codeOf e, faults := setBit s.faults (faultBit e) true } := rfl

theorem finish_eq : finish s = { s with err := 0x00 } := rfl

theorem crcbuf_frame (sel : BufSel) (len : Nat) :
    crcbuf sel len s =
      { s with crc := (crcbuf sel len s).crc, err := (crcbuf sel len s).err, faults := (crcbuf sel len s).faults } := by
  unfold crcbuf
  split <;> rfl

theorem crcapp_frame :
    crcapp s =
      { s with
        crc := (crcapp s).crc, txbuf := (crcapp s).txbuf, txlen := (crcapp s).txlen, err := (crcapp s).err
        faults := (crcapp s).faults } := by
  unfold crcapp
  split <;> rfl

theorem crcvfy_frame (sel : BufSel) :
    crcvfy sel s =
      { s with crc := (crcvfy sel s).crc, err := (crcvfy sel s).err, faults := (crcvfy sel s).faults } := by
  unfold crcvfy
  split
  · rfl
  · split <;> rfl

theorem addrconv_frame :
    addrconv s = { s with waddr := (addrconv s).waddr, err := (addrconv s).err, faults := (addrconv s).faults } := by
  unfold addrconv
  split <;> rfl

theorem build_frame :
    build s =
      { s with
        txbuf := (build s).txbuf, txlen := (build s).txlen, waddr := (build s).waddr, crc := (build s).crc
        err := (build s).err, faults := (build s).faults } := by
  unfold build
  split <;> rfl

theorem explenOp_frame :
    explenOp s =
      { s with explen := (explenOp s).explen, err := (explenOp s).err, faults := (explenOp s).faults } := by
  unfold explenOp
  split <;> rfl

theorem parseRead_frame :
    parseRead s =
      { s with
        rbc := (parseRead s).rbc, reg := (parseRead s).reg, regn := (parseRead s).regn, rkind := (parseRead s).rkind
        err := (parseRead s).err, faults := (parseRead s).faults } := by
  unfold parseRead
  simp only
  repeat' split
  all_goals rfl

theorem parseEcho_frame :
    parseEcho s =
      { s with
        rwaddr := (parseEcho s).rwaddr, rwval := (parseEcho s).rwval, rkind := (parseEcho s).rkind
        rflags := (parseEcho s).rflags, err := (parseEcho s).err, faults := (parseEcho s).faults } := by
  unfold parseEcho
  split <;> rfl

theorem parseError_frame :
    parseError s =
      { s with
        rkind := 4, rcode := rxAt s 2, rmsg := msgIdx (rxAt s 2), err := 0x20, faults := setBit s.faults 4 true } := rfl

theorem parseBody_frame :
    parseBody s =
      { s with
        rkind := (parseBody s).rkind, rflags := (parseBody s).rflags, rcode := (parseBody s).rcode
        rmsg := (parseBody s).rmsg, rbc := (parseBody s).rbc, rwaddr := (parseBody s).rwaddr
        rwval := (parseBody s).rwval, reg := (parseBody s).reg, regn := (parseBody s).regn
        err := (parseBody s).err, faults := (parseBody s).faults } := by
  unfold parseBody
  repeat' split
  · rfl
  · rfl
  · rw [parseRead_frame]
  · rw [parseEcho_frame]
  · rfl

theorem parse_frame :
    parse s =
      { s with
        rkind := (parse s).rkind, rflags := (parse s).rflags, rdev := (parse s).rdev, rfunc := (parse s).rfunc
        rcode := (parse s).rcode, rmsg := (parse s).rmsg, rbc := (parse s).rbc, rwaddr := (parse s).rwaddr
        rwval := (parse s).rwval, reg := (parse s).reg, regn := (parse s).regn, crc := (parse s).crc
        err := (parse s).err, faults := (parse s).faults } := by
  unfold parse
  simp only
  repeat' split
  · rfl
  · rfl
  · rw [parseBody_frame]
    rfl

theorem scalld_frame (idx : Nat) :
    scalld idx s =
      { s with
        scalar := (scalld idx s).scalar, status := (scalld idx s).status, err := (scalld idx s).err
        faults := (scalld idx s).faults } := by
  unfold scalld
  repeat' split
  all_goals rfl

theorem resolveScalar_frame :
    resolveScalar s =
      { s with
        scalused := (resolveScalar s).scalused, status := (resolveScalar s).status
        faults := (resolveScalar s).faults } := by
  unfold resolveScalar
  split <;> rfl

theorem resolveSet_frame :
    resolveSet s =
      { s with mset := (resolveSet s).mset, msrc := (resolveSet s).msrc, midx := (resolveSet s).midx } := by
  unfold resolveSet
  repeat' split
  all_goals rfl

theorem resolve_frame :
    resolve s =
      { s with
        scalused := (resolve s).scalused, status := (resolve s).status, faults := (resolve s).faults
        mset := (resolve s).mset, msrc := (resolve s).msrc, midx := (resolve s).midx } := by
  unfold resolve
  rw [resolveSet_frame, resolveScalar_frame]
  rfl

theorem resolve_writes :
    ∃ u st fa ms sr ix,
      resolve s = { s with scalused := u, status := st, faults := fa, mset := ms, msrc := sr, midx := ix } :=
  ⟨_, _, _, _, _, _, resolve_frame s⟩

theorem scaleTo_frame (check : Option ErrCode) (raw : Nat) (c : MClass) :
    scaleTo check raw c s =
      { s with
        acc := (scaleTo check raw c s).acc, status := (scaleTo check raw c s).status
        err := (scaleTo check raw c s).err, faults := (scaleTo check raw c s).faults } := by
  cases check <;> rfl

theorem p3fix_frame :
    p3fix s = { s with acc := (p3fix s).acc, err := (p3fix s).err, faults := (p3fix s).faults } := by
  unfold p3fix
  repeat' split
  all_goals rfl

theorem decodeOut_eq (r : State) :
    finish (decodeOut r) =
      { r with
        out := putAll r.out 0 ((firstN r.fd r.nfd.toNat).map (decodeField r))
        outn := r.nfd.setWidth 7, status := setBit r.status 4 true, err := 0 } := rfl

theorem decodeBlock_error (e : ErrCode) (h : decodeCheck s = some e) : decodeBlock s = raise e (setOutv false s) := by
  simp only [decodeBlock, h]

theorem decodeBlock_pass (h : decodeCheck s = none) : decodeBlock s = finish (decodeOut (resolve s)) := by
  simp only [decodeBlock, h]

theorem filterBlock_error (e : ErrCode) (h : filterCheck s = some e) : filterBlock s = raise e s := by
  simp only [filterBlock, h]

theorem filterBlock_pass (h : filterCheck s = none) : filterBlock s = finish (filterStages s) := by
  simp only [filterBlock, h]

theorem decodeBlock_frame :
    decodeBlock s =
      { s with
        scalused := (decodeBlock s).scalused, status := (decodeBlock s).status, mset := (decodeBlock s).mset
        msrc := (decodeBlock s).msrc, midx := (decodeBlock s).midx, out := (decodeBlock s).out
        outn := (decodeBlock s).outn, err := (decodeBlock s).err, faults := (decodeBlock s).faults } := by
  cases h : decodeCheck s with
  | some e =>
    rw [decodeBlock_error s e h]
    rfl
  | none =>
    obtain ⟨_, _, _, _, _, _, h'⟩ := resolve_writes s
    rw [decodeBlock_pass s h, h', decodeOut_eq]

theorem overOut_writes (stage : Word → OutField → OutField) : ∃ o, overOut stage s = { s with out := o } := ⟨_, rfl⟩

theorem filterStages_writes : ∃ o, filterStages s = { s with out := o } := by
  unfold filterStages
  obtain ⟨o1, h1⟩ := overOut_writes s powerStage
  obtain ⟨o2, h2⟩ := overOut_writes (overOut powerStage s) energyStage
  obtain ⟨o3, h3⟩ := overOut_writes (overOut energyStage (overOut powerStage s)) (frequencyStage s)
  refine ⟨o3, ?_⟩
  rw [h3, h2, h1]

theorem filterBlock_frame :
    filterBlock s =
      { s with out := (filterBlock s).out, err := (filterBlock s).err, faults := (filterBlock s).faults } := by
  cases h : filterCheck s with
  | some e =>
    rw [filterBlock_error s e h]
    rfl
  | none =>
    obtain ⟨_, h'⟩ := filterStages_writes s
    rw [filterBlock_pass s h, h']
    rfl

/-- A load line writes its buffer and the length of that buffer, and has no step when the bytes do not fit
(30_encoding.md R103). -/
theorem loadFrame_cases (b : BufSel) (bytes : List Byte) :
    (bytes.length ≤ 256 ∧ loadFrame b bytes s =
      .next (match b with
        | .tx => setTxFrame bytes s
        | .rx => setRxFrame bytes s)) ∨
    (256 < bytes.length ∧ loadFrame b bytes s = .fault .loadBeyondBuffer) := by
  unfold loadFrame
  by_cases h : bytes.length ≤ 256
  · exact .inl ⟨h, if_pos h⟩
  · exact .inr ⟨by omega, if_neg h⟩

theorem loadFrame_tx_next (bytes : List Byte) (t : State) (h : loadFrame .tx bytes s = .next t) :
    bytes.length ≤ 256 ∧ t = setTxFrame bytes s := by
  rcases loadFrame_cases s .tx bytes with ⟨h1, h2⟩ | ⟨_, h2⟩ <;> rw [h2] at h
  · cases h
    exact ⟨h1, rfl⟩
  · cases h

theorem loadFrame_rx_next (bytes : List Byte) (t : State) (h : loadFrame .rx bytes s = .next t) :
    bytes.length ≤ 256 ∧ t = setRxFrame bytes s := by
  rcases loadFrame_cases s .rx bytes with ⟨h1, h2⟩ | ⟨_, h2⟩ <;> rw [h2] at h
  · cases h
    exact ⟨h1, rfl⟩
  · cases h

/-- A frame instruction is the load of its encoding. -/
theorem exec_of_frame (i : Instr) (b : BufSel) (bytes : List Byte) (h : encode i = .frame b bytes) :
    exec i s = loadFrame b bytes s := by
  cases i <;> first | exact absurd h (fun h => Image.noConfusion h) | skip
  all_goals
    simp only [encode, Image.frame.injEq] at h
    obtain ⟨rfl, rfl⟩ := h
    rfl

end Sys2Proof.Machine
end

