-- ==== Sys2Proof/Laws/Crc.lean ====
section
/-! SUPPORT. The running CRC, and the frame invariant `CRCVFY` and `PARSE` check. -/

namespace Sys2Proof.Machine

theorem crcFrom_append (c : Half) (a b : List Byte) : crcFrom c (a ++ b) = crcFrom (crcFrom c a) b := by
  simp [crcFrom]

/-- A CRC continued over its own two bytes, low byte first, is 0. -/
theorem crcByte_own_bytes (c : Half) : crcByte (crcByte c (lo8 c)) (hi8 c) = 0 := by
  have aux : ∀ h l : BitVec 8, crcByte (crcByte (h ++ l) l) h = 0 := by
    intro h l
    have e : ((h ++ l : BitVec 16) ^^^ l.setWidth 16) = h ++ (0#8) := by
      apply BitVec.eq_of_getLsbD_eq
      intro i hi
      simp only [BitVec.getLsbD_xor, BitVec.getLsbD_append, BitVec.getLsbD_setWidth]
      by_cases h8 : i < 8
      · simp [h8]
        omega
      · simp [h8, BitVec.getLsbD_of_ge l i (by omega)]
    have e2 : ∀ h : BitVec 8, Nat.repeat crcBit 8 (h ++ (0#8)) = h.setWidth 16 := by decide +kernel
    simp only [crcByte, e, e2]
    simp
    decide
  have := aux (hi8 c) (lo8 c)
  rwa [show (hi8 c ++ lo8 c : Half) = c from frombe16_hi_lo c] at this

@[simp] theorem length_withCrc (bytes : List Byte) : (withCrc bytes).length = bytes.length + 2 := by
  simp [withCrc, le16]

theorem crcGood_withCrc (bytes : List Byte) : crcGood (withCrc bytes) = true := by
  simp [crcGood, withCrc, le16]

/-- The last two bytes of a buffer's frame are compared exactly as the frame invariant of 30_encoding.md R91 says. -/
theorem crcMatches_iff (s : State) (b : BufSel) (h : 2 ≤ lenOf s b) (h2 : lenOf s b ≤ 256) :
    crcMatches s b (bodyCrc s b) = crcGood (firstN (bufOf s b) (lenOf s b)) := by
  obtain ⟨n, hn⟩ : ∃ n, lenOf s b = n + 2 := ⟨lenOf s b - 2, by omega⟩
  have hsplit : firstN (bufOf s b) (n + 2) =
      firstN (bufOf s b) n ++ [elem 0 (bufOf s b) n, elem 0 (bufOf s b) (n + 1)] := by
    have hlen : (firstN (bufOf s b) n ++ [elem 0 (bufOf s b) n, elem 0 (bufOf s b) (n + 1)]).length = n + 2 := by
      simp [Config.bufSize]
      omega
    rw [← hlen]
    refine firstN_eq 0 _ _ (by simp [Config.bufSize]; omega) fun j hj => ?_
    rw [hlen] at hj
    by_cases h : j < n
    · rw [List.getD_append _ _ _ _ (by simp [Config.bufSize]; omega), getD_firstN _ _ _ _ h]
    · rw [List.getD_append_right _ _ _ _ (by simp [Config.bufSize]; omega)]
      have hm : min n Config.bufSize = n := by
        simp [Config.bufSize]
        omega
      have : j = n ∨ j = n + 1 := by omega
      rcases this with rfl | rfl <;> simp [hm]
  simp only [crcMatches, crcGood, bodyCrc, hn]
  rw [hsplit]
  simp only [Nat.add_sub_cancel, withCrc, le16]
  simp [show n + 2 - 1 = n + 1 by omega]

theorem crcapp_ok (s : State) (h : s.txlen.toNat ≤ 254) :
    crcapp s =
      { s with
        crc := crc16 (firstN s.txbuf s.txlen.toNat)
        txbuf := putAll s.txbuf s.txlen.toNat (le16 (crc16 (firstN s.txbuf s.txlen.toNat)))
        txlen := s.txlen + 2
        err := 0 } := by
  unfold crcapp
  rw [if_neg (by omega)]
  rfl

end Sys2Proof.Machine
end

