-- ==== Sys2Proof/Laws/Builder.lean ====
section
/-! SUPPORT. What `BUILD` checks and the frame it makes (41_frame_builder.md). -/

namespace Sys2Proof.Machine

variable (s : State)

theorem wire_exceeds (l : Nat) : 0xFFFF < wire l ↔ 105536 < l := by
  unfold wire
  split <;> omega

/-- A prefix satisfies a property of its elements exactly when each element does. -/
theorem forall_mem_firstN {α : Type} {n : Nat} (d : α) (v : Vector α n) (k : Nat) (h : k ≤ n) (P : α → Prop) :
    (∀ x ∈ firstN v k, P x) ↔ ∀ j, j < k → P (elem d v j) := by
  have hl : (firstN v k).length = k := by
    simp
    omega
  have hg : ∀ j (hj : j < (firstN v k).length), (firstN v k)[j] = elem d v j := by
    intro j hj
    rw [← getD_firstN d v k j (by omega)]
    simp [List.getD_eq_getElem?_getD, List.getElem?_eq_getElem hj]
  constructor
  · intro h' j hj
    have := h' _ (List.getElem_mem (by omega : j < (firstN v k).length))
    rwa [hg] at this
  · intro h' x hx
    obtain ⟨j, hj, rfl⟩ := List.mem_iff_getElem.1 hx
    rw [hg]
    exact h' j (by omega)

/-- The conditions of R136 as statements about numbers. -/
theorem buildRejects_iff :
    buildRejects s = true ↔
      let f := s.func.toNat
      let n := s.count.toNat
      let k := s.nval.toNat
      (s.devaddr.toNat < 1 ∨ 247 < s.devaddr.toNat) ∨ ¬(f = 3 ∨ f = 4 ∨ f = 6 ∨ f = 16) ∨ 105536 < s.regaddr.toNat ∨
      (f = 3 ∨ f = 4) ∧ (n < 1 ∨ 125 < n) ∨ f = 16 ∧ (n < 1 ∨ 123 < n) ∨ (f = 6 ∨ f = 16) ∧ 123 < k ∨
      f = 16 ∧ k ≠ 0 ∧ k ≠ n ∨ f = 6 ∧ 1 ≤ k ∧ 0xFFFF < (valAt s 0).toNat ∨
      f = 16 ∧ k = n ∧ ∃ j, j < n ∧ 0xFFFF < (valAt s j).toNat := by
  have hany : s.count.toNat ≤ 123 →
      (((firstN s.val s.count.toNat).any fun v => decide (0xFFFF < v.toNat)) = true ↔
        ∃ j, j < s.count.toNat ∧ 0xFFFF < (valAt s j).toNat) := by
    intro hc
    have := forall_mem_firstN 0 s.val s.count.toNat hc fun v => ¬0xFFFF < v.toNat
    rw [← not_iff_not]
    simpa [List.any_eq_true, valAt] using this
  simp only [buildRejects, Bool.or_eq_true, decide_eq_true_eq, Bool.and_eq_true, wire_exceeds]
  by_cases hc : s.count.toNat ≤ 123
  · rw [hany hc]
    simp only [or_assoc, and_assoc]
  · have hc' : 123 < s.count.toNat := by omega
    by_cases h16 : s.func.toNat = 16
    · simp [h16, hc']
    · simp only [h16, false_and, or_false, false_or, or_assoc]

theorem build_rejected (h : buildRejects s = true) : build s = raise .configuration { s with txlen := 0 } := by
  unfold build
  rw [if_pos h]

theorem build_accepted (h : buildRejects s = false) :
    build s =
      finish { setTxFrame (withCrc (buildBody s)) s with waddr := wireHalf s, crc := crc16 (buildBody s) } := by
  unfold build
  rw [if_neg (by simp [h])]

theorem length_writeValues (h : s.count.toNat ≤ 123) : (writeValues s).length = s.count.toNat := by
  unfold writeValues
  split <;> simp [Config.valSize]
  omega

theorem length_buildBody (h : buildRejects s = false) :
    (buildBody s).length = if s.func.toNat = 16 then 7 + 2 * s.count.toNat else 6 := by
  have h' := mt (buildRejects_iff s).2 (by simp [h])
  simp only at h'
  unfold buildBody
  split
  · rw [if_neg (by omega)]
    simp [buildHead, be16]
  · split
    · simp only [List.length_append, List.length_cons, length_flatMap_be16, length_writeValues s (by omega)]
      simp [buildHead, be16]
      omega
    · simp [buildHead, be16]

/-- The built frame is short enough for `TXBUF`. -/
theorem buildBody_fits (h : buildRejects s = false) : (buildBody s).length + 2 ≤ 256 := by
  have h' := mt (buildRejects_iff s).2 (by simp [h])
  simp only at h'
  rw [length_buildBody s h]
  split <;> omega

/-- A frame put into `TXBUF` is read back as it is. -/
theorem setTxFrame_frame (bytes : List Byte) (h : bytes.length ≤ 256) :
    (setTxFrame bytes s).txlen.toNat = bytes.length ∧
      firstN (setTxFrame bytes s).txbuf (setTxFrame bytes s).txlen.toNat = bytes := by
  have hl : (setTxFrame bytes s).txlen.toNat = bytes.length := by
    simp only [setTxFrame, BitVec.toNat_ofNat]
    omega
  exact ⟨hl, by rw [hl]; exact firstN_putAll _ _ h⟩

theorem setRxFrame_frame (bytes : List Byte) (h : bytes.length ≤ 256) :
    (setRxFrame bytes s).rxlen.toNat = bytes.length ∧
      firstN (setRxFrame bytes s).rxbuf (setRxFrame bytes s).rxlen.toNat = bytes := by
  have hl : (setRxFrame bytes s).rxlen.toNat = bytes.length := by
    simp only [setRxFrame, BitVec.toNat_ofNat]
    omega
  exact ⟨hl, by rw [hl]; exact firstN_putAll _ _ h⟩

end Sys2Proof.Machine
end

