-- ==== Sys2Proof/Laws/Flags.lean ====
section
/-! SUPPORT. Reading a flag after writing one. -/

namespace Sys2Proof.Machine

theorem getLsbD_setBit {w : Nat} (v : BitVec w) (i j : Nat) (b : Bool) :
    (setBit v i b).getLsbD j = if i = j ∧ j < w then b else v.getLsbD j := by
  unfold setBit
  by_cases hj : j < w
  · by_cases hij : i = j
    · subst hij
      cases b <;> simp [hj]
    · have hji : j ≠ i := Ne.symm hij
      cases b <;> simp [hj, hij, hji]
  · cases b <;> simp [BitVec.getLsbD_of_ge _ _ (Nat.le_of_not_lt hj), hj]

/-- A write outside the bits of a mask leaves the masked part alone. -/
theorem setBit_and {w : Nat} (v m : BitVec w) (i : Nat) (b : Bool) (h : m.getLsbD i = false) :
    setBit v i b &&& m = v &&& m := by
  apply BitVec.eq_of_getLsbD_eq
  intro j hj
  simp only [BitVec.getLsbD_and, getLsbD_setBit]
  by_cases hij : i = j
  · subst hij
    simp [h]
  · simp [hij]

end Sys2Proof.Machine
end

