-- ==== Sys2Proof/Laws/Outcomes.lean ====
section
/-! SUPPORT. How each operation ends: without an error and with `FAULTS` as it was, or with one of the codes listed for
it (60_exceptions.md R250, R255). -/

namespace Sys2Proof.Machine

variable (s : State)

/-- `t` is how an operation that raises only the codes `es` may end from `s`. -/
def Ends (es : List ErrCode) (s t : State) : Prop :=
  (t.err = 0 ∧ t.faults = s.faults) ∨ ∃ e ∈ es, t.err = codeOf e ∧ t.faults = setBit s.faults (faultBit e) true

theorem crcbuf_ends (sel : BufSel) (len : Nat) : Ends [.operand] s (crcbuf sel len s) := by
  unfold crcbuf
  split
  · exact .inr ⟨.operand, by simp, rfl, rfl⟩
  · exact .inl ⟨rfl, rfl⟩

theorem crcapp_ends : Ends [.operand] s (crcapp s) := by
  unfold crcapp
  split
  · exact .inr ⟨.operand, by simp, rfl, rfl⟩
  · exact .inl ⟨rfl, rfl⟩

theorem crcvfy_ends (sel : BufSel) : Ends [.operand, .frameCrc] s (crcvfy sel s) := by
  unfold crcvfy
  repeat' split
  · exact .inr ⟨.operand, by simp, rfl, rfl⟩
  · exact .inl ⟨rfl, rfl⟩
  · exact .inr ⟨.frameCrc, by simp, rfl, rfl⟩

theorem addrconv_ends : Ends [.configuration] s (addrconv s) := by
  unfold addrconv
  split
  · exact .inr ⟨.configuration, by simp, rfl, rfl⟩
  · exact .inl ⟨rfl, rfl⟩

theorem build_ends : Ends [.configuration] s (build s) := by
  unfold build
  split
  · exact .inr ⟨.configuration, by simp, rfl, rfl⟩
  · exact .inl ⟨rfl, rfl⟩

theorem explenOp_ends : Ends [.operand] s (explenOp s) := by
  unfold explenOp
  split
  · exact .inr ⟨.operand, by simp, rfl, rfl⟩
  · exact .inl ⟨rfl, rfl⟩

theorem parse_ends :
    Ends [.operand, .frameShort, .frameCrc, .frameTrunc, .frameCount, .frameFunc, .protocol] s (parse s) := by
  unfold parse
  simp only
  repeat' split
  · exact .inr ⟨.operand, by simp, rfl, rfl⟩
  · exact .inr ⟨.frameShort, by simp, rfl, rfl⟩
  · unfold parseBody
    repeat' split
    · exact .inr ⟨.frameCrc, by simp, rfl, rfl⟩
    · exact .inr ⟨.protocol, by simp, rfl, rfl⟩
    · unfold parseRead
      simp only
      repeat' split
      · exact .inr ⟨.frameTrunc, by simp, rfl, rfl⟩
      · exact .inr ⟨.frameCount, by simp, rfl, rfl⟩
      · exact .inr ⟨.frameCount, by simp, rfl, rfl⟩
      · exact .inl ⟨rfl, rfl⟩
    · unfold parseEcho
      split
      · exact .inr ⟨.frameTrunc, by simp, rfl, rfl⟩
      · exact .inl ⟨rfl, rfl⟩
    · exact .inr ⟨.frameFunc, by simp, rfl, rfl⟩

theorem scalld_ends (idx : Nat) : Ends [.operand, .decode] s (scalld idx s) := by
  unfold scalld
  repeat' split
  · exact .inr ⟨.operand, by simp, rfl, rfl⟩
  · exact .inr ⟨.decode, by simp, rfl, rfl⟩
  · exact .inl ⟨rfl, rfl⟩

theorem scaleTo_ends (last raw : Nat) (c : MClass) :
    Ends [.operand, .notReady, .decode] s (scaleTo (scaleCheck last c s) raw c s) := by
  unfold scaleCheck
  repeat' split
  · exact .inr ⟨.operand, by simp, rfl, rfl⟩
  · exact .inr ⟨.notReady, by simp, rfl, rfl⟩
  · exact .inr ⟨.decode, by simp, rfl, rfl⟩
  · exact .inl ⟨rfl, rfl⟩

theorem p3fix_ends : Ends [.notReady] s (p3fix s) := by
  unfold p3fix
  repeat' split
  · exact .inr ⟨.notReady, by simp, rfl, rfl⟩
  · exact .inl ⟨rfl, rfl⟩
  · exact .inl ⟨rfl, rfl⟩

theorem filterBlock_ends : Ends [.operand, .notReady, .decode] s (filterBlock s) := by
  cases h : filterCheck s with
  | none =>
    obtain ⟨_, h'⟩ := filterStages_writes s
    rw [filterBlock_pass s h, h']
    exact .inl ⟨rfl, rfl⟩
  | some e =>
    rw [filterBlock_error s e h]
    refine .inr ⟨e, ?_, rfl, rfl⟩
    unfold filterCheck at h
    repeat' split at h
    all_goals
      simp at h
      try
        subst h
        simp

/-- `RESOLVE` (and a `DECODE` that passes) sets `FAULTS.WARNDEF` where the default scalar is used
(60_exceptions.md R262). -/
theorem resolve_faults : (resolve s).faults = if s.scalv then s.faults else setBit s.faults 8 true := by
  have : (resolve s).faults = (resolveScalar s).faults := by
    simp only [resolve, setMsetv]
    rw [resolveSet_frame]
  rw [this]
  unfold resolveScalar
  split <;> rfl

theorem decodeBlock_ends :
    (∃ e ∈ [ErrCode.operand, .decode, .descriptor],
      (decodeBlock s).err = codeOf e ∧ (decodeBlock s).faults = setBit s.faults (faultBit e) true) ∨
    ((decodeBlock s).err = 0 ∧ (decodeBlock s).faults = (resolve s).faults) := by
  cases h : decodeCheck s with
  | none =>
    rw [decodeBlock_pass s h]
    exact .inr ⟨rfl, rfl⟩
  | some e =>
    rw [decodeBlock_error s e h]
    refine .inl ⟨e, ?_, rfl, rfl⟩
    unfold decodeCheck at h
    repeat' split at h
    all_goals
      simp at h
      try
        subst h
        simp

end Sys2Proof.Machine
end

