-- ==== Sys2Proof/Laws/Parser.lean ====
section
/-! SUPPORT. The stages of `PARSE` (42_frame_parser.md). -/

namespace Sys2Proof.Machine

variable (s : State)

theorem toNat_frombe16 (h l : Byte) : (frombe16 h l).toNat = h.toNat * 256 + l.toNat := by
  simp only [frombe16, BitVec.toNat_append]
  rw [Nat.shiftLeft_eq, Nat.mul_comm, ← Nat.two_pow_add_eq_or_of_lt (by exact l.isLt)]

theorem replyFlags_crcOk (a b c : Bool) : (replyFlags a b c).getLsbD 0 = a := by
  revert a b c
  decide

theorem bit7_iff (b : Byte) : b.getLsbD 7 = decide (128 ≤ b.toNat) := by
  revert b
  decide +kernel

/-- The checks of R151, and the state the later steps start from. -/
theorem parse_cases :
    (256 < s.rxlen.toNat ∨ 256 < s.txlen.toNat) ∧ parse s = raise .operand (parseClear s) ∨
    s.rxlen.toNat < 3 ∧ s.txlen.toNat ≤ 256 ∧ parse s = raise .frameShort (parseClear s) ∨
    3 ≤ s.rxlen.toNat ∧ s.rxlen.toNat ≤ 256 ∧ s.txlen.toNat ≤ 256 ∧ parse s = parseBody (parseHeader (parseClear s)) := by
  unfold parse
  simp only
  split
  · exact .inl ⟨‹_›, rfl⟩
  · split
    · exact .inr (.inl ⟨‹_›, by omega, rfl⟩)
    · exact .inr (.inr ⟨by omega, by omega, by omega, rfl⟩)

/-- The header's writes, with `CRC_OK` as the frame invariant (R152, R153). -/
theorem parseHeader_eq (h : 3 ≤ s.rxlen.toNat) (h1 : s.rxlen.toNat ≤ 256) :
    parseHeader (parseClear s) =
      { s with
        rkind := 0, rcode := 0, rmsg := 0, rbc := 0, rwaddr := 0, rwval := 0, regn := 0
        rdev := rxAt s 0, rfunc := rxAt s 1, crc := crc16 (firstN s.rxbuf (s.rxlen.toNat - 2))
        rflags := replyFlags (crcGood (firstN s.rxbuf s.rxlen.toNat)) (decide (1 ≤ s.txlen.toNat ∧ rxAt s 0 = txAt s 0))
          (decide (2 ≤ s.txlen.toNat ∧ rxAt s 1 &&& 0x7F = txAt s 1)) } := by
  have := crcMatches_iff (parseClear s) .rx (by simp only [lenOf, parseClear]; omega) h1
  simp only [parseHeader, this]
  rfl

/-- The dispatch of steps 5 to 7 on `CRC_OK`, the error bit and the function code. -/
theorem parseBody_cases :
    (s.crcchk = true ∧ s.rflags.getLsbD 0 = false → parseBody s = raise .frameCrc s) ∧
    (¬(s.crcchk = true ∧ s.rflags.getLsbD 0 = false) →
      (128 ≤ (rxAt s 1).toNat → parseBody s = parseError s) ∧
      ((rxAt s 1).toNat = 3 ∨ (rxAt s 1).toNat = 4 → parseBody s = parseRead s) ∧
      ((rxAt s 1).toNat = 6 ∨ (rxAt s 1).toNat = 16 → parseBody s = parseEcho s) ∧
      ((rxAt s 1).toNat < 128 →
        ¬((rxAt s 1).toNat = 3 ∨ (rxAt s 1).toNat = 4 ∨ (rxAt s 1).toNat = 6 ∨ (rxAt s 1).toNat = 16) →
        parseBody s = raise .frameFunc s)) := by
  have hc : (s.crcchk && !s.rflags.getLsbD 0) = true ↔ s.crcchk = true ∧ s.rflags.getLsbD 0 = false := by simp
  unfold parseBody
  simp only [hc, bit7_iff, decide_eq_true_eq]
  refine ⟨fun h => by rw [if_pos h], fun h => ⟨fun h7 => ?_, fun h7 => ?_, fun h7 => ?_, fun h7 h8 => ?_⟩⟩
  · rw [if_neg h, if_pos h7]
  · rw [if_neg h, if_neg (by omega), if_pos h7]
  · rw [if_neg h, if_neg (by omega), if_neg (by omega), if_pos h7]
  · rw [if_neg h, if_neg (by omega), if_neg (by omega), if_neg (by omega)]

@[simp] theorem length_replyRegs (bc : Nat) : (replyRegs s bc).length = bc / 2 := by
  simp [replyRegs]

/-- Two buffers agree on their first six bytes exactly when each byte does (R162). -/
theorem firstN_six (v w : Vector Byte 256) :
    firstN v 6 = firstN w 6 ↔ ∀ k, k < 6 → elem 0 v k = elem 0 w k := by
  constructor
  · intro h k hk
    rw [← getD_firstN 0 v 6 k hk, h, getD_firstN 0 w 6 k hk]
  · intro h
    have := firstN_eq 0 v (firstN w 6) (by simp) fun j hj => by
      have hj : j < 6 := by simpa using hj
      rw [getD_firstN _ _ _ _ hj]
      exact h j hj
    simpa using this

end Sys2Proof.Machine
end

