-- ==== Sys2Proof/Laws/PerInstr.lean ====
section
/-! SUPPORT. Facts about every instruction as syntax, one lemma per constructor. -/

/-- A well-formed instruction's image has at least four bytes and fits the buffers (30_encoding.md R80, R91 to R98). -/
def Sys2Proof.Laws.ImageFits.Statement (i : Sys2Proof.Instr) : Prop :=
  ∀ hasFilter : Bool, i.wf hasFilter = true → 4 ≤ (Sys2Proof.encode i).size ∧ (Sys2Proof.encode i).size ≤ 256

namespace Sys2Proof.Laws.ImageFits

open Sys2Proof Sys2Proof.Machine

theorem nop : Statement .nop := by
  intro hasFilter h
  simp [encode, Image.size]

theorem srst : Statement .srst := by
  intro hasFilter h
  simp [encode, Image.size]

theorem crcinit : Statement .crcinit := by
  intro hasFilter h
  simp [encode, Image.size]

theorem crcbyte (imm8 : BitVec 8) : Statement (.crcbyte imm8) := by
  intro hasFilter h
  simp [encode, Image.size]

theorem crcbuf (sel : BufSel) (len : BitVec 9) : Statement (.crcbuf sel len) := by
  intro hasFilter h
  simp [encode, Image.size]

theorem crcapp : Statement .crcapp := by
  intro hasFilter h
  simp [encode, Image.size]

theorem crcvfy (sel : BufSel) : Statement (.crcvfy sel) := by
  intro hasFilter h
  simp [encode, Image.size]

theorem addrconv : Statement .addrconv := by
  intro hasFilter h
  simp [encode, Image.size]

theorem build : Statement .build := by
  intro hasFilter h
  simp [encode, Image.size]

theorem explen : Statement .explen := by
  intro hasFilter h
  simp [encode, Image.size]

theorem parse : Statement .parse := by
  intro hasFilter h
  simp [encode, Image.size]

theorem scalset (imm16 : BitVec 16) : Statement (.scalset imm16) := by
  intro hasFilter h
  simp [encode, Image.size]

theorem scalld (idx : BitVec 7) : Statement (.scalld idx) := by
  intro hasFilter h
  simp [encode, Image.size]

theorem scalclr : Statement .scalclr := by
  intro hasFilter h
  simp [encode, Image.size]

theorem resolve : Statement .resolve := by
  intro hasFilter h
  simp [encode, Image.size]

theorem scale16 (off : BitVec 7) (cls : MClass) : Statement (.scale16 off cls) := by
  intro hasFilter h
  simp [encode, Image.size]

theorem scale32 (off : BitVec 7) (cls : MClass) : Statement (.scale32 off cls) := by
  intro hasFilter h
  simp [encode, Image.size]

theorem p3fix : Statement .p3fix := by
  intro hasFilter h
  simp [encode, Image.size]

theorem decode : Statement .decode := by
  intro hasFilter h
  simp [encode, Image.size]

theorem filter : Statement .filter := by
  intro hasFilter h
  simp [encode, Image.size]

theorem reqReadHolding (dev : Byte) (waddr count crc : Half) : Statement (.reqReadHolding dev waddr count crc) := by
  intro hasFilter h
  simp [encode, Image.size, frame2, be16, le16]

theorem reqReadInput (dev : Byte) (waddr count crc : Half) : Statement (.reqReadInput dev waddr count crc) := by
  intro hasFilter h
  simp [encode, Image.size, frame2, be16, le16]

theorem reqWriteSingle (dev : Byte) (waddr value crc : Half) : Statement (.reqWriteSingle dev waddr value crc) := by
  intro hasFilter h
  simp [encode, Image.size, frame2, be16, le16]

theorem reqWriteMultiple (dev : Byte) (waddr : Half) (values : List Half) (crc : Half) : Statement (.reqWriteMultiple dev waddr values crc) := by
  intro hasFilter h
  simp only [Instr.wf, decide_eq_true_eq] at h
  have := length_flatMap_be16 values
  simp only [encode, Image.size, List.length_cons, List.length_append, this, be16, le16, List.length_nil]
  omega

theorem rspReadHolding (dev : Byte) (regs : List Half) (crc : Half) : Statement (.rspReadHolding dev regs crc) := by
  intro hasFilter h
  simp only [Instr.wf, decide_eq_true_eq] at h
  have := length_flatMap_be16 regs
  simp only [encode, Image.size, List.length_cons, List.length_append, this, le16, List.length_nil]
  omega

theorem rspReadInput (dev : Byte) (regs : List Half) (crc : Half) : Statement (.rspReadInput dev regs crc) := by
  intro hasFilter h
  simp only [Instr.wf, decide_eq_true_eq] at h
  have := length_flatMap_be16 regs
  simp only [encode, Image.size, List.length_cons, List.length_append, this, le16, List.length_nil]
  omega

theorem rspWriteSingle (dev : Byte) (waddr value crc : Half) : Statement (.rspWriteSingle dev waddr value crc) := by
  intro hasFilter h
  simp [encode, Image.size, frame2, be16, le16]

theorem rspWriteMultiple (dev : Byte) (waddr count crc : Half) : Statement (.rspWriteMultiple dev waddr count crc) := by
  intro hasFilter h
  simp [encode, Image.size, frame2, be16, le16]

theorem rspError (dev fn code : Byte) (crc : Half) : Statement (.rspError dev fn code crc) := by
  intro hasFilter h
  simp [encode, Image.size, le16]

end Sys2Proof.Laws.ImageFits
end

