-- ==== Sys2Proof/Laws/RegisterMap.lean ====
section
/-! SUPPORT. The register space: where each word stands, reading after writing, and which accesses have a step
(20_memory.md R61 to R63). -/

namespace Sys2Proof.Machine

variable (s : State)

/-- An aligned access of width 4 inside the space names one word. -/
theorem accessOffset_word (o : Nat) (h : o < 0x500) : accessOffset s (s.params.base + 4 * o) 4 = some o := by
  unfold accessOffset
  have e : s.params.base + 4 * o - s.params.base = 4 * o := by omega
  rw [e, if_pos ⟨rfl, by omega, by omega, by simp only [Config.spaceWords]; omega⟩]
  congr 1
  omega

theorem accessOffset_isSome (addr n : Nat) :
    (accessOffset s addr n).isSome = true ↔
      n = 4 ∧ s.params.base ≤ addr ∧ addr < s.params.base + 4 * 0x500 ∧ (addr - s.params.base) % 4 = 0 := by
  unfold accessOffset
  simp only [Config.spaceWords]
  split
  · simp only [Option.isSome_some, true_iff]
    omega
  · simp only [Option.isSome_none, Bool.false_eq_true, false_iff]
    omega

theorem accessOffset_none (addr n : Nat) :
    accessOffset s addr n = none ↔
      ¬(n = 4 ∧ s.params.base ≤ addr ∧ addr < s.params.base + 4 * 0x500 ∧ (addr - s.params.base) % 4 = 0) := by
  rw [← accessOffset_isSome]
  cases accessOffset s addr n <;> simp

/-- The word offset of a location (R61). -/
def offsetOf : Loc → Nat
  | .cmd => 0x000
  | .status => 0x001
  | .err => 0x002
  | .faults => 0x003
  | .cfg => 0x004
  | .defscalar => 0x005
  | .crc => 0x006
  | .devaddr => 0x008
  | .func => 0x009
  | .regaddr => 0x00A
  | .count => 0x00B
  | .nval => 0x00C
  | .waddr => 0x00D
  | .txlen => 0x00E
  | .explen => 0x00F
  | .rxlen => 0x010
  | .rkind => 0x011
  | .rflags => 0x012
  | .rdev => 0x013
  | .rfunc => 0x014
  | .rcode => 0x015
  | .rmsg => 0x016
  | .rbc => 0x017
  | .regn => 0x018
  | .rwaddr => 0x019
  | .rwval => 0x01A
  | .scalar => 0x020
  | .scalused => 0x021
  | .msrc => 0x022
  | .midx => 0x023
  | .accLo => 0x024
  | .accHi => 0x025
  | .accE => 0x026
  | .nfd => 0x027
  | .outn => 0x028
  | .manM c => 0x030 + 2 * c
  | .manE c => 0x031 + 2 * c
  | .msetM c => 0x040 + 2 * c
  | .msetE c => 0x041 + 2 * c
  | .val i => 0x080 + i
  | .txbuf i => 0x100 + i
  | .rxbuf i => 0x200 + i
  | .reg i => 0x300 + i
  | .fd i => 0x380 + i
  | .outLo i => 0x400 + 4 * i
  | .outHi i => 0x401 + 4 * i
  | .outE i => 0x402 + 4 * i
  | .outFl i => 0x403 + 4 * i

/-- A location is found at its own offset only. -/
theorem offsetOf_locate (o : Nat) (l : Loc) (h : locate o = some l) : offsetOf l = o := by
  have aux : ∀ o, o < 0x500 → ((locate o).map offsetOf).getD o = o := by decide +kernel
  have ho : o < 0x500 := by
    by_contra hc
    have : locate o = none := by
      unfold locate
      simp only [show ¬o < 0x030 by omega, show ¬o < 0x03A by omega, show ¬o < 0x040 by omega,
        show ¬o < 0x04A by omega, show ¬o < 0x080 by omega, show ¬o < 0x0FB by omega, show ¬o < 0x100 by omega,
        show ¬o < 0x200 by omega, show ¬o < 0x300 by omega, show ¬o < 0x37E by omega, show ¬o < 0x380 by omega,
        show ¬o < 0x3C0 by omega, show ¬o < 0x400 by omega, hc, if_false]
    rw [this] at h
    cases h
  have := aux o ho
  rwa [h] at this

/-! Where each array stands (R61). -/

theorem locate_man (c : Nat) (h : c < 5) :
    locate (0x030 + 2 * c) = some (.manM c) ∧ locate (0x031 + 2 * c) = some (.manE c) := by
  revert c
  decide +kernel

theorem locate_mset (c : Nat) (h : c < 5) :
    locate (0x040 + 2 * c) = some (.msetM c) ∧ locate (0x041 + 2 * c) = some (.msetE c) := by
  revert c
  decide +kernel

theorem locate_val (i : Nat) (h : i < 123) : locate (0x080 + i) = some (.val i) := by
  revert i
  decide +kernel

theorem locate_txbuf (i : Nat) (h : i < 256) : locate (0x100 + i) = some (.txbuf i) := by
  revert i
  decide +kernel

theorem locate_rxbuf (i : Nat) (h : i < 256) : locate (0x200 + i) = some (.rxbuf i) := by
  revert i
  decide +kernel

theorem locate_reg (i : Nat) (h : i < 126) : locate (0x300 + i) = some (.reg i) := by
  revert i
  decide +kernel

theorem locate_fd (i : Nat) (h : i < 64) : locate (0x380 + i) = some (.fd i) := by
  revert i
  decide +kernel

theorem locate_out (i : Nat) (h : i < 64) :
    locate (0x400 + 4 * i) = some (.outLo i) ∧ locate (0x401 + 4 * i) = some (.outHi i) ∧
      locate (0x402 + 4 * i) = some (.outE i) ∧ locate (0x403 + 4 * i) = some (.outFl i) := by
  revert i
  decide +kernel

/-- A 64-bit mantissa as its two words (R62). -/
theorem mantissa_low (m : BitVec 64) : (m.extractLsb' 0 32).toNat = m.toNat % 2 ^ 32 := by
  simp [BitVec.extractLsb'_toNat]

theorem mantissa_high (m : BitVec 64) : (m.extractLsb' 32 32).toNat = m.toNat / 2 ^ 32 := by
  rw [BitVec.extractLsb'_toNat, Nat.shiftRight_eq_div_pow, Nat.mod_eq_of_lt]
  have := m.isLt
  omega

theorem readWord_of (o : Nat) (l : Loc) (h : locate o = some l) : readWord s o = readLoc s l := by
  simp only [readWord, h]

theorem writeWord_of (o : Nat) (l : Loc) (w : Word) (h : locate o = some l) : writeWord s o w = writeLoc w s l := by
  simp only [writeWord, h]

/-- A host write changes one register of the state at most; the rest by its equation. -/
theorem writeLoc_context (w : Word) (l : Loc) :
    (writeLoc w s l).prog = s.prog ∧ (writeLoc w s l).pc = s.pc ∧ (writeLoc w s l).rdata = s.rdata ∧
      (writeLoc w s l).params = s.params := by
  cases l <;> exact ⟨rfl, rfl, rfl, rfl⟩

end Sys2Proof.Machine
end

