-- ==== Sys2Proof/Laws/Scaling.lean ====
section
/-! SUPPORT. Exactness of the scaled values, descriptors, and the stages of `RESOLVE`, `DECODE` and `FILTER`
(43_scaling.md, 44_plausibility_filter.md). -/

namespace Sys2Proof.Machine

variable (s : State)

/-- A 32-bit value scaled does not overflow (R181 d). -/
theorem scale_exact (raw : Nat) (mu : Mult) (h : raw < 2 ^ 32) :
    (scale raw mu).m.toNat = raw * mu.m.toNat ∧ (scale raw mu).e.toNat = mu.e.toNat := by
  have hm := mu.m.isLt
  have he := mu.e.isLt
  have : raw * mu.m.toNat < 2 ^ 64 :=
    calc raw * mu.m.toNat ≤ (2 ^ 32 - 1) * (2 ^ 32 - 1) := Nat.mul_le_mul (by omega) (by omega)
      _ < 2 ^ 64 := by norm_num
  constructor
  · simp [scale]
    omega
  · simp [scale]
    omega

theorem mult_eq (c : MClass) : mult s c = if c = .raw then ⟨1, 0⟩ else msetAt s c.num := by
  cases c <;> rfl

theorem reg32_toNat (off : Nat) :
    (reg32 s off).toNat =
      if s.mswfirst then (regAt s off).toNat * 65536 + (regAt s (off + 1)).toNat
      else (regAt s (off + 1)).toNat * 65536 + (regAt s off).toNat := by
  have half : ∀ a b : Half, (a ++ b : Word).toNat = a.toNat * 65536 + b.toNat := by
    intro a b
    simp only [BitVec.toNat_append]
    rw [Nat.shiftLeft_eq, Nat.mul_comm, ← Nat.two_pow_add_eq_or_of_lt (by exact b.isLt)]
  unfold reg32 combine32
  split <;> rw [half]

theorem fdRaw_lt (d : Word) : fdRaw s d < 2 ^ 32 := by
  unfold fdRaw
  split
  · exact (reg32 s _).isLt
  · have := (regAt s (fdOff d)).isLt
    omega

theorem fdValid_iff (n : Nat) (d : Word) :
    fdValid n d = true ↔
      fdReserved d = 0 ∧ fdClass d ≤ 5 ∧ fdRole d ≤ 4 ∧ fdOff d + (if fdW32 d then 1 else 0) < n := by
  unfold fdValid
  rw [Bool.and_eq_true, Bool.and_eq_true, Bool.and_eq_true, decide_eq_true_iff, decide_eq_true_iff, decide_eq_true_iff,
    decide_eq_true_iff, and_assoc, and_assoc]

/-- One decoded field: the exact product, and the one division by 10 where it applies (R195 step 5, R192). -/
theorem decodeField_cases (d : Word) :
    let raw := fdRaw s d
    let mu := multNum s (fdClass d)
    let fix : Prop := fdP3 d = true ∧ 100000 * 10 ^ mu.e.toNat < raw * mu.m.toNat
    (decodeField s d).m.toNat = raw * mu.m.toNat ∧
    (fix → (decodeField s d).e.toNat = mu.e.toNat + 1 ∧ (decodeField s d).fl = 0b0001#4) ∧
    (¬fix → (decodeField s d).e.toNat = mu.e.toNat ∧ (decodeField s d).fl = 0b0000#4) := by
  intro raw mu fix
  obtain ⟨h1, h2⟩ := scale_exact raw mu (fdRaw_lt s d)
  have hfix : (fdP3 d && p3Exceeds (scale raw mu).m (scale raw mu).e) = true ↔ fix := by
    simp [p3Exceeds, exceeds, h1, h2, fix]
  have he := mu.e.isLt
  unfold decodeField
  by_cases hf : fix
  · simp only
    rw [if_pos (hfix.2 hf)]
    refine ⟨h1, fun _ => ⟨?_, rfl⟩, fun h => absurd hf h⟩
    show ((scale raw mu).e + 1).toNat = _
    rw [BitVec.toNat_add, h2]
    simp
    omega
  · simp only
    rw [if_neg fun h => hf (hfix.1 h)]
    exact ⟨h1, fun h => absurd h hf, fun _ => ⟨h2, rfl⟩⟩

theorem resolve_status : (resolve s).status = setBit (resolveScalar s).status 2 true := by
  simp only [resolve, setMsetv]
  rw [resolveSet_frame]

theorem resolve_scalused : (resolve s).scalused = if s.scalv then s.scalar else s.defscalar := by
  have : (resolve s).scalused = (resolveScalar s).scalused := by
    simp only [resolve, setMsetv]
    rw [resolveSet_frame]
  rw [this]
  unfold resolveScalar
  split <;> rfl

/-- The three sources of a multiplier set (R185, R188); never `MDEF` (R187). -/
theorem resolve_set :
    (s.manual = true ∧ (resolve s).mset = s.man ∧ (resolve s).msrc = 3 ∧ (resolve s).midx = 0) ∨
    (s.manual = false ∧ (resolve s).scalused.toNat = 15 ∧ (resolve s).mset = s.params.m15 ∧ (resolve s).msrc = 2 ∧
      (resolve s).midx = 0) ∨
    (s.manual = false ∧ (resolve s).scalused.toNat ≠ 15 ∧
      (resolve s).mset = standardSet s.params (clampScalar (resolve s).scalused.toNat) ∧ (resolve s).msrc = 1 ∧
      (resolve s).midx = BitVec.ofNat 3 (clampScalar (resolve s).scalused.toNat)) := by
  have hu : (resolve s).scalused = (resolveScalar s).scalused := by
    simp only [resolve, setMsetv]
    rw [resolveSet_frame]
  have hm : (resolve s).mset = (resolveSet (resolveScalar s)).mset ∧
      (resolve s).msrc = (resolveSet (resolveScalar s)).msrc ∧
      (resolve s).midx = (resolveSet (resolveScalar s)).midx := ⟨rfl, rfl, rfl⟩
  have hc : (resolveScalar s).manual = s.manual ∧ (resolveScalar s).man = s.man ∧
      (resolveScalar s).params = s.params := by
    unfold resolveScalar
    split <;> exact ⟨rfl, rfl, rfl⟩
  rw [hm.1, hm.2.1, hm.2.2, hu, ← hc.1, ← hc.2.1, ← hc.2.2]
  unfold resolveSet
  split
  · exact .inl ⟨‹_›, rfl, rfl, rfl⟩
  · split
    · exact .inr (.inl ⟨by simpa using ‹¬(resolveScalar s).manual = true›, ‹_›, rfl, rfl, rfl⟩)
    · exact .inr (.inr ⟨by simpa using ‹¬(resolveScalar s).manual = true›, ‹_›, rfl, rfl, rfl⟩)

theorem standardSet_at (p : Params) (k : Nat) (hk : k < 7) :
    standardSet p k = #v[p.mtab[k].power, p.mtab[k].current, p.mtab[k].voltage, p.mtab[k].pf, ⟨5, 3⟩] := by
  have : elem ⟨⟨0, 0⟩, ⟨0, 0⟩, ⟨0, 0⟩, ⟨0, 0⟩⟩ p.mtab k = p.mtab[k] := by
    rw [elem_eq]
    simp [hk]
  simp only [standardSet, this]
  rfl

/-- One filter stage over `OUT`: each entry below `OUTN` with its descriptor, the others left alone (R220). -/
theorem outAt_overOut (stage : Word → OutField → OutField) (hn : s.outn.toNat ≤ 64) (k : Nat) :
    outAt (overOut stage s) k = if k < s.outn.toNat then stage (fdAt s k) (outAt s k) else outAt s k := by
  have hl : (List.zipWith stage (firstN s.fd s.outn.toNat) (firstN s.out s.outn.toNat)).length = s.outn.toNat := by
    simp [Config.fdSize]
    omega
  have hz : ∀ (a : List Word) (b : List OutField), k < a.length → k < b.length →
      (List.zipWith stage a b).getD k ⟨0, 0, 0⟩ = stage (a.getD k 0) (b.getD k ⟨0, 0, 0⟩) := by
    intro a b h1 h2
    simp [List.getD_eq_getElem?_getD, h1, h2]
  simp only [outAt, overOut, elem_putAll, hl]
  by_cases hk : k < s.outn.toNat
  · rw [if_pos ⟨by omega, by omega, by simp [Config.fdSize]; omega⟩, if_pos hk, Nat.sub_zero,
      hz _ _ (by simp [Config.fdSize]; omega) (by simp [Config.fdSize]; omega), getD_firstN _ _ _ _ hk,
      getD_firstN _ _ _ _ hk]
    rfl
  · rw [if_neg (by omega), if_neg hk]

/-- The three stages on one entry. -/
theorem outAt_filterStages (hn : s.outn.toNat ≤ 64) (k : Nat) :
    outAt (filterStages s) k =
      if k < s.outn.toNat then
        frequencyStage s (fdAt s k) (energyStage (fdAt s k) (powerStage (fdAt s k) (outAt s k)))
      else outAt s k := by
  have e1 : ∀ stage (u : State), (overOut stage u).outn = u.outn := fun _ _ => rfl
  have e2 : ∀ stage (u : State), fdAt (overOut stage u) k = fdAt u k := fun _ _ => rfl
  unfold filterStages
  rw [outAt_overOut _ _ (by simpa only [e1] using hn), outAt_overOut _ _ (by simpa only [e1] using hn),
    outAt_overOut _ _ hn]
  simp only [e1, e2]
  by_cases hk : k < s.outn.toNat
  · simp only [hk, if_true]
  · simp only [hk, if_false]

end Sys2Proof.Machine
end

