-- ==== Sys2Proof/Laws/Step.lean ====
section
/-! SUPPORT. What one step can be. -/

namespace Sys2Proof.Machine

variable (s : State)

/-! What an access to a word of the space does (R62, R67). -/

theorem act_read (o : Nat) (h : o < 0x500) :
    act (.read (s.params.base + 4 * o) 4) s = .next { s with rdata := readWord s o } := by
  simp only [act, hostRead, accessOffset_word s o h]

theorem act_write (o : Nat) (w : Word) (h : o < 0x500) (h0 : o ≠ 0) :
    act (.write (s.params.base + 4 * o) 4 w) s = .next (writeWord s o w) := by
  simp only [act, hostWrite, accessOffset_word s o h, if_neg h0]

theorem act_command (w : Word) : act (.write s.params.base 4 w) s = writeCommand w s := by
  have h := accessOffset_word s 0 (by omega)
  rw [Nat.mul_zero, Nat.add_zero] at h
  simp only [act, hostWrite, h, if_pos]

theorem step_action (a : HostAction) (h : s.prog[s.pc]? = some a) : step s = act a (advance s) := by
  simp only [step, hostStep, h]

theorem step_idle (h : s.prog.length ≤ s.pc) : step s = .next s := by
  simp only [step, hostStep, List.getElem?_eq_none h]

/-- Every step with a successor: idle, a read, a store, an instruction, an illegal word, or raw bytes loaded. -/
theorem step_cases (t : State) (h : step s = .next t) :
    t = s ∨
    (∃ o, t = { advance s with rdata := readWord (advance s) o }) ∨
    (∃ o w, o ≠ 0 ∧ t = writeWord (advance s) o w) ∨
    (∃ w i, decodeCommand s.params.hasFilter w = .ok i ∧ exec i { advance s with cmd := w } = .next t) ∨
    (∃ w r, decodeCommand s.params.hasFilter w = .error r ∧
      t = raise .illegalCommand { advance s with cmd := w }) ∨
    (∃ b bytes i, decodeFrame b bytes = .ok i ∧ exec i (advance s) = .next t) ∨
    ∃ b bytes r, decodeFrame b bytes = .error r ∧ loadFrame b bytes (advance s) = .next t := by
  rcases hp : s.prog[s.pc]? with _ | a
  · have : step s = .next s := by simp only [step, hostStep, hp]
    rw [this] at h
    cases h
    exact .inl rfl
  · rw [step_action s a hp] at h
    cases a with
    | read addr n =>
      simp only [act, hostRead] at h
      split at h
      · cases h
        exact .inr (.inl ⟨_, rfl⟩)
      · cases h
    | write addr n w =>
      simp only [act, hostWrite] at h
      split at h
      · split at h
        · simp only [writeCommand] at h
          split at h
          · exact .inr (.inr (.inr (.inl ⟨w, _, ‹_›, h⟩)))
          · cases h
            exact .inr (.inr (.inr (.inr (.inl ⟨w, _, ‹_›, rfl⟩))))
        · cases h
          exact .inr (.inr (.inl ⟨_, w, ‹_›, rfl⟩))
      · cases h
    | load b bytes =>
      simp only [act, hostLoad] at h
      split at h
      · exact .inr (.inr (.inr (.inr (.inr (.inl ⟨b, bytes, _, ‹_›, h⟩)))))
      · exact .inr (.inr (.inr (.inr (.inr (.inr ⟨b, bytes, _, ‹_›, h⟩)))))

/-- The placed instruction is the next action. -/
theorem withFetchWord_next (nbits w : Nat) :
    (s.withFetchWord nbits w).prog[(s.withFetchWord nbits w).pc]? = some (actionOf s (tableImage nbits w)) := by
  simp only [State.withFetchWord, withAction]
  rw [List.getElem?_append_right (by simp)]
  simp

end Sys2Proof.Machine
end

