-- ==== Sys2Proof/Tests/Slice0.lean ====
section
/-! SUPPORT. Tests. Expected values are those of spec/95_test_vectors.md (V-...) and of the encodings of
spec/30_encoding.md, written out here; none is the model's own answer. The witnesses at the end show that the hypotheses
of the obligations can be met. -/

namespace Sys2Proof.Tests

open Sys2Proof Sys2Proof.Machine

-- One theorem after the other: each kernel evaluation would otherwise hold a thread of its own.
set_option Elab.async false

/-! ### Helpers -/

/-- The reset state with every array and every open ROM entry a plain 0, so that it can be evaluated. -/
def zero : State := { State.reset with
  val := Vector.replicate _ 0, txbuf := Vector.replicate _ 0, rxbuf := Vector.replicate _ 0
  reg := Vector.replicate _ 0, fd := Vector.replicate _ 0, out := Vector.replicate _ ⟨0, 0, 0⟩
  params := { hasFilter := true, base := 0, mtab := Vector.replicate _ ⟨⟨1, 1⟩, ⟨1, 3⟩, ⟨1, 3⟩, ⟨1, 1⟩⟩
              m15 := Vector.replicate _ ⟨15, 0⟩, mdef := Vector.replicate _ ⟨16, 0⟩ } }

def ends (o : Host.Outcome State Fault Refusal) (p : State → Bool) : Bool :=
  match o with
  | .next t => p t
  | .fault _ => false
  | .refused _ => false

def stuck (o : Host.Outcome State Fault Refusal) : Bool :=
  match o with
  | .next _ => false
  | .fault f => decide (f = .hostStuck)
  | .refused _ => false

def withTx (bytes : List Byte) (s : State) : State := setTxFrame bytes s
def withRx (bytes : List Byte) (s : State) : State := setRxFrame bytes s
def withRegs (rs : List Half) (n : Word) (s : State) : State := { s with reg := putAll s.reg 0 rs, regn := n }

/-- Field `k = 0` of the output block and its descriptor, with `OUTN = 1`, `OUTV = 1`, `REGN = 22`, `REG[10] = raw`. -/
def oneField (d : Word) (f : OutField) (raw : Half) : State :=
  { zero with
    fd := put zero.fd 0 d, out := put zero.out 0 f, reg := put zero.reg 10 raw, regn := 22, outn := 1
    status := 0x10 }

/-! ### WellFormed: an ill-formed term for each check -/

theorem test_wf_crcbuf_length : (Instr.crcbuf .tx 257).wf true = false := by decide
theorem test_wf_filter_absent : Instr.filter.wf false = false := by decide
theorem test_wf_write_multiple_length :
    (Instr.reqWriteMultiple 1 0 (List.replicate 124 0) 0).wf true = false := by decide +kernel
theorem test_wf_read_holding_length : (Instr.rspReadHolding 1 (List.replicate 126 0) 0).wf true = false := by decide +kernel
theorem test_wf_read_input_length : (Instr.rspReadInput 1 (List.replicate 126 0) 0).wf true = false := by decide +kernel
theorem test_wf_error_bit : (Instr.rspError 1 0x03 2 0).wf true = false := by decide +kernel
theorem test_wf_accepts :
    (Instr.crcbuf .tx 256).wf true = true ∧ Instr.filter.wf true = true ∧
    (Instr.reqWriteMultiple 1 0 (List.replicate 123 0) 0).wf true = true ∧
    (Instr.rspReadHolding 1 (List.replicate 125 0) 0).wf true = true ∧ (Instr.rspError 1 0x83 2 0).wf true = true := by
  decide +kernel

/-! ### Decoding: every constructor's word or bytes, written out from R80 to R98 -/

theorem test_decode_system :
    decodeCommand true 0b00000000_000000000000000000000000 = .ok .nop ∧
    decodeCommand true 0b00000001_000000000000000000000000 = .ok .srst := by decide

theorem test_decode_crc :
    decodeCommand true 0b00010000_000000000000000000000000 = .ok .crcinit ∧
    decodeCommand true 0b00010001_0000000000000000_01101011 = .ok (.crcbyte 0x6B) ∧
    decodeCommand true 0b00010010_0000000_0_0000000_000000110 = .ok (.crcbuf .tx 6) ∧
    decodeCommand true 0b00010010_0000000_1_0000000_100000000 = .ok (.crcbuf .rx 256) ∧
    decodeCommand true 0b00010011_000000000000000000000000 = .ok .crcapp ∧
    decodeCommand true 0b00010100_0000000_0_0000000000000000 = .ok (.crcvfy .tx) ∧
    decodeCommand true 0b00010100_0000000_1_0000000000000000 = .ok (.crcvfy .rx) := by decide

theorem test_decode_builder :
    decodeCommand true 0b00100000_000000000000000000000000 = .ok .addrconv ∧
    decodeCommand true 0b00100001_000000000000000000000000 = .ok .build ∧
    decodeCommand true 0b00100010_000000000000000000000000 = .ok .explen := by decide

theorem test_decode_parser : decodeCommand true 0b00110000_000000000000000000000000 = .ok .parse := by decide

theorem test_decode_scaling :
    decodeCommand true 0b01000000_00000000_1000000000000001 = .ok (.scalset 0x8001) ∧
    decodeCommand true 0b01000001_00000000000000000_1000001 = .ok (.scalld 65) ∧
    decodeCommand true 0b01000010_000000000000000000000000 = .ok .scalclr ∧
    decodeCommand true 0b01000011_000000000000000000000000 = .ok .resolve ∧
    decodeCommand true 0b01000100_0000000000000_100_0_0000100 = .ok (.scale16 4 .frequency) ∧
    decodeCommand true 0b01000100_0000000000000_001_0_1000001 = .ok (.scale16 65 .current) ∧
    decodeCommand true 0b01000101_0000000000000_101_0_0000100 = .ok (.scale32 4 .raw) ∧
    decodeCommand true 0b01000110_000000000000000000000000 = .ok .p3fix ∧
    decodeCommand true 0b01000111_000000000000000000000000 = .ok .decode := by decide

theorem test_decode_filter :
    decodeCommand true 0b01010000_000000000000000000000000 = .ok .filter ∧
    decodeCommand false 0x50000000 = .error .filterAbsent := by decide

theorem test_decode_requests :
    decodeFrame .tx [0x01, 0x03, 0x0F, 0xA0, 0x00, 0x16, 0xC7, 0x32] = .ok (.reqReadHolding 1 4000 22 0x32C7) ∧
    decodeFrame .tx [0x01, 0x04, 0x75, 0x31, 0x00, 0x02, 0x3A, 0x08] = .ok (.reqReadInput 1 0x7531 2 0x083A) ∧
    decodeFrame .tx [0x01, 0x06, 0x00, 0x01, 0x00, 0x03, 0x98, 0x0B] = .ok (.reqWriteSingle 1 1 3 0x0B98) ∧
    decodeFrame .tx [0x01, 0x10, 0x00, 0x01, 0x00, 0x02, 0x04, 0x00, 0x0A, 0x01, 0x02, 0x92, 0x30] =
      .ok (.reqWriteMultiple 1 1 [10, 258] 0x3092) := by decide

theorem test_decode_replies :
    decodeFrame .rx [0x01, 0x03, 0x04, 0x06, 0xC2, 0x00, 0x05, 0x9B, 0x44] = .ok (.rspReadHolding 1 [1730, 5] 0x449B) ∧
    decodeFrame .rx [0x01, 0x04, 0x04, 0x00, 0x01, 0x00, 0x02, 0x2B, 0x85] = .ok (.rspReadInput 1 [1, 2] 0x852B) ∧
    decodeFrame .rx [0x01, 0x06, 0x00, 0x01, 0x00, 0x03, 0x98, 0x0B] = .ok (.rspWriteSingle 1 1 3 0x0B98) ∧
    decodeFrame .rx [0x01, 0x10, 0x00, 0x01, 0x00, 0x02, 0x10, 0x08] = .ok (.rspWriteMultiple 1 1 2 0x0810) ∧
    decodeFrame .rx [0x01, 0x83, 0x02, 0xC0, 0xF1] = .ok (.rspError 1 0x83 2 0xF1C0) := by decide

/-- The illegal words of 95_test_vectors.md section 2.6. -/
theorem test_decode_illegal :
    ([0x00000001, 0x02000000, 0x0F000000, 0x23000000, 0x31000000, 0x48000000, 0x51000000, 0xFF000000, 0x11000100,
      0x12000101, 0x12020000, 0x14000001, 0x14020000, 0x40010000, 0x41000080, 0x44000080, 0x44000600, 0x45000700,
      0x44000800] : List Word).all (fun w => match decodeCommand true w with
        | .ok _ => false
        | .error _ => true) = true := by decide

theorem test_decode_not_a_frame :
    decodeFrame .rx [0x01, 0x01, 0x01, 0x00, 0x51, 0x88] = .error .frameFunction ∧
    decodeFrame .rx [0x01, 0x03, 0x03, 0x01, 0x02, 0x03, 0x55, 0x2F] = .error .frameShape ∧
    decodeFrame .tx [0x01, 0x03, 0x0F, 0xA0, 0x00] = .error .frameShape := by decide

/-! ### Operations -/

/-- V-X1. -/
theorem test_nop : ends (exec .nop { zero with err := 0x03, faults := 0x002, status := 0b10 })
    (fun t => t.err = 0 ∧ t.faults = 0x002 ∧ t.status = 0b10) = true := by decide +kernel

/-- V-X2. -/
theorem test_srst : ends (exec .srst { withTx [0x11, 0, 0, 0, 0, 0, 0, 0] zero with
      cfg := 0xF, defscalar := 2, devaddr := 5, faults := 2, status := 2, cmd := 0x01000000 })
    (fun t => t.cfg = 3 ∧ t.defscalar = 0 ∧ t.devaddr = 0 ∧ t.faults = 0 ∧ t.status = 0 ∧ t.txlen = 0 ∧
      t.crc = 0xFFFF ∧ t.cmd = 0x01000000 ∧ txAt t 0 = 0x11) = true := by decide +kernel

/-- V-C11. -/
theorem test_crcinit : ends (exec .crcinit { zero with crc := 0x1234 }) (fun t => t.crc = 0xFFFF) = true := by
  decide +kernel

/-- V-C12, the first two bytes. -/
theorem test_crcbyte : ends (exec (.crcbyte 0x11) zero) (fun t => t.crc = 0x4C7F) = true ∧
    ends (exec (.crcbyte 0x03) { zero with crc := 0x4C7F }) (fun t => t.crc = 0xE14D) = true := by decide +kernel

/-- V-C13, V-C14. -/
theorem test_crcbuf :
    ends (exec (.crcbuf .tx 6) (withTx [0x01, 0x03, 0x0F, 0xA0, 0x00, 0x16] zero))
      (fun t => t.crc = 0x32C7 ∧ t.txlen = 6) = true ∧
    ends (exec (.crcbuf .tx 0) (withTx [0x01] zero)) (fun t => t.crc = 0xFFFF) = true := by decide +kernel

/-- V-C15, V-C17. -/
theorem test_crcbuf_too_long :
    ends (exec (.crcbuf .tx 7) (withTx [1, 3, 0, 0, 0, 1] zero))
      (fun t => t.err = 0x03 ∧ t.faults = 2 ∧ t.crc = 0xFFFF) = true ∧
    ends (exec (.crcbuf .rx 256) zero) (fun t => t.err = 0x03) = true := by decide +kernel

/-- V-C18, V-C19. -/
theorem test_crcapp :
    ends (exec .crcapp (withTx [0xFF, 0xFF] zero))
      (fun t => t.txlen = 4 ∧ txAt t 2 = 0 ∧ txAt t 3 = 0 ∧ t.crc = 0) = true ∧
    ends (exec .crcapp zero) (fun t => t.txlen = 2 ∧ txAt t 0 = 0xFF ∧ txAt t 1 = 0xFF ∧ t.crc = 0xFFFF) = true := by
  decide +kernel

/-- V-C21. -/
theorem test_crcapp_full : ends (exec .crcapp { zero with txlen := 255 })
    (fun t => t.err = 0x03 ∧ t.txlen = 255 ∧ t.crc = 0xFFFF) = true := by decide +kernel

/-- V-C22, V-C24. -/
theorem test_crcvfy :
    ends (exec (.crcvfy .rx) (withRx [0x01, 0x83, 0x02, 0xC0, 0xF1] zero)) (fun t => t.err = 0 ∧ t.crc = 0xF1C0) = true ∧
    ends (exec (.crcvfy .rx) (withRx [0xFF, 0xFF] zero)) (fun t => t.err = 0 ∧ t.crc = 0xFFFF) = true := by
  decide +kernel

/-- V-C23, V-C25. -/
theorem test_crcvfy_fails :
    ends (exec (.crcvfy .rx) (withRx [0x01, 0x83, 0x02, 0xC0, 0xF0] zero))
      (fun t => t.err = 0x11 ∧ t.faults = 8 ∧ t.crc = 0xF1C0) = true ∧
    ends (exec (.crcvfy .rx) { zero with rxlen := 1 }) (fun t => t.err = 0x03 ∧ t.crc = 0xFFFF) = true := by
  decide +kernel

/-- V-A1, V-A4, V-A7. -/
theorem test_addrconv :
    ends (exec .addrconv { zero with regaddr := 44001 }) (fun t => t.waddr = 0x0FA0) = true ∧
    ends (exec .addrconv { zero with regaddr := 40000 }) (fun t => t.waddr = 0x9C40) = true ∧
    ends (exec .addrconv { zero with regaddr := 105536 }) (fun t => t.waddr = 0xFFFF) = true := by decide +kernel

/-- V-A8. -/
theorem test_addrconv_too_large : ends (exec .addrconv { zero with regaddr := 105537, waddr := 7 })
    (fun t => t.err = 0x02 ∧ t.faults = 4 ∧ t.waddr = 7) = true := by decide +kernel

/-- V-B1, V-B15. -/
theorem test_build :
    ends (exec .build { zero with devaddr := 1, func := 3, regaddr := 44001, count := 22 })
      (fun t => firstN t.txbuf 8 = [0x01, 0x03, 0x0F, 0xA0, 0x00, 0x16, 0xC7, 0x32] ∧ t.txlen = 8 ∧ t.waddr = 4000 ∧
        t.crc = 0x32C7) = true ∧
    ends (exec .build { zero with
        devaddr := 1, func := 16, regaddr := 40002, count := 2, nval := 2, val := putAll zero.val 0 [10, 258] })
      (fun t => firstN t.txbuf 13 =
        [0x01, 0x10, 0x00, 0x01, 0x00, 0x02, 0x04, 0x00, 0x0A, 0x01, 0x02, 0x92, 0x30] ∧ t.txlen = 13) = true := by
  decide +kernel

/-- V-B28, V-B22. -/
theorem test_build_rejects :
    ends (exec .build { zero with
        devaddr := 1, func := 16, regaddr := 40002, count := 2, nval := 2, txlen := 5
        val := putAll zero.val 0 [10, 0x10000] })
      (fun t => t.err = 0x02 ∧ t.faults = 4 ∧ t.txlen = 0 ∧ t.txbuf = zero.txbuf) = true ∧
    ends (exec .build { zero with devaddr := 1, func := 5, regaddr := 44001, count := 22 }) (fun t => t.err = 0x02) =
      true := by decide +kernel

/-- V-E1, V-E8. -/
theorem test_explen :
    ends (exec .explen (withTx [0x01, 0x03, 0x0F, 0xA0, 0x00, 0x16, 0xC7, 0x32] zero)) (fun t => t.explen = 49) = true ∧
    ends (exec .explen (withTx [0x01, 0x03, 0, 0, 0xFF, 0xFF, 0, 0] zero)) (fun t => t.explen = 131075) = true := by
  decide +kernel

/-- V-E4, V-E7, V-E10. -/
theorem test_explen_other :
    ends (exec .explen (withTx [0x01, 0x06, 0, 1, 0, 3, 0x98, 0x0B] zero)) (fun t => t.explen = 8) = true ∧
    ends (exec .explen (withTx [0x01, 0x03, 0x0F, 0xA0, 0x00] zero)) (fun t => t.explen = 256) = true ∧
    ends (exec .explen (withTx [0x01, 0x2B, 0, 0, 0, 0, 0, 0] zero)) (fun t => t.explen = 256) = true := by decide +kernel

/-- The request of the parser vectors, V-B5. -/
def asked : State := withTx [0x01, 0x03, 0x0F, 0xA0, 0x00, 0x02, 0xC7, 0x3D] zero

/-- V-P1, V-P21, V-P13. -/
theorem test_parse_read :
    ends (exec .parse (withRx [0x01, 0x03, 0x04, 0x06, 0xC2, 0x00, 0x05, 0x9B, 0x44] asked))
      (fun t => t.err = 0 ∧ t.rkind = 1 ∧ t.rflags = 0b0111 ∧ t.rdev = 1 ∧ t.rfunc = 3 ∧ t.rbc = 4 ∧ t.regn = 2 ∧
        regAt t 0 = 1730 ∧ regAt t 1 = 5 ∧ t.crc = 0x449B) = true ∧
    ends (exec .parse (withRx [0x01, 0x03, 0x04, 0x06, 0xC2, 0x00, 0x05, 0x9B, 0x44, 0x00] asked))
      (fun t => t.err = 0 ∧ t.rflags = 0b0111 ∧ t.regn = 2 ∧ t.crc = 0x0044) = true ∧
    ends (exec .parse { withRx [0x01, 0x03, 0x04, 0x06, 0xC2, 0x00] asked with cfg := 2 })
      (fun t => t.err = 0x12 ∧ t.rbc = 4 ∧ t.regn = 0 ∧ t.crc = 0x1A73) = true := by decide +kernel

/-- V-P7, V-P11, V-P29. -/
theorem test_parse_other :
    ends (exec .parse (withRx [0x01, 0x83, 0x02, 0xC0, 0xF1] asked))
      (fun t => t.err = 0x20 ∧ t.faults = 0x10 ∧ t.rkind = 4 ∧ t.rflags = 0b0111 ∧ t.rfunc = 0x83 ∧ t.rcode = 2 ∧
        t.rmsg = 2 ∧ t.regn = 0 ∧ t.crc = 0xF1C0) = true ∧
    ends (exec .parse (withRx [0x01, 0x83, 0x02, 0xC0, 0x0E] asked))
      (fun t => t.err = 0x11 ∧ t.rkind = 0 ∧ t.rcode = 0) = true ∧
    ends (exec .parse (withRx [0x01, 0x06, 0x00, 0x01, 0x20, 0x19]
        (withTx [0x01, 0x06, 0x00, 0x01, 0x00, 0x03, 0x98, 0x0B] zero)))
      (fun t => t.err = 0 ∧ t.rkind = 2 ∧ t.rwaddr = 1 ∧ t.rwval = 0x2019 ∧ t.rflags = 0b0111) = true := by
  decide +kernel

/-- V-S8, V-S20. -/
theorem test_scalar_cache :
    ends (exec (.scalset 0xFFFF) zero) (fun t => t.scalar = 0xFFFF ∧ t.status = 0b10) = true ∧
    ends (exec (.scalld 0) (withRegs [3] 1 zero)) (fun t => t.scalar = 3 ∧ t.status = 0b10) = true ∧
    ends (exec (.scalld 1) (withRegs [3] 1 zero)) (fun t => t.err = 0x30 ∧ t.scalar = 0 ∧ t.status = 0) = true := by
  decide +kernel

/-- V-S21, and the last step of V-S9 before its RESOLVE. -/
theorem test_scalar_cache_other :
    ends (exec (.scalld 0) { zero with regn := 127 }) (fun t => t.err = 0x03 ∧ t.faults = 2) = true ∧
    ends (exec .scalclr { zero with status := 0b000110 }) (fun t => t.status = 0b000100) = true := by decide +kernel

/-- V-S2, V-S6, V-S9. -/
theorem test_resolve :
    ends (exec .resolve { zero with scalar := 3, status := 2 })
      (fun t => t.scalused = 3 ∧ t.msrc = 1 ∧ t.midx = 3 ∧ t.status = 0b000110 ∧ msetAt t 0 = ⟨1, 1⟩ ∧
        msetAt t 4 = ⟨5, 3⟩) = true ∧
    ends (exec .resolve { zero with scalar := 15, status := 2 })
      (fun t => t.scalused = 15 ∧ t.msrc = 2 ∧ t.midx = 0 ∧ msetAt t 4 = ⟨15, 0⟩) = true ∧
    ends (exec .resolve { zero with defscalar := 3 })
      (fun t => t.scalused = 3 ∧ t.midx = 3 ∧ t.status = 0b100100 ∧ t.faults = 0x100) = true := by decide +kernel

/-- V-S22, V-S8. -/
theorem test_resolve_other :
    ends (exec .resolve { zero with cfg := 7, scalar := 15, status := 2, man := Vector.replicate 5 ⟨2, 0⟩ })
      (fun t => t.scalused = 15 ∧ t.msrc = 3 ∧ t.midx = 0 ∧ msetAt t 4 = ⟨2, 0⟩) = true ∧
    ends (exec .resolve { zero with scalar := 65535, status := 2 })
      (fun t => t.scalused = 65535 ∧ t.msrc = 1 ∧ t.midx = 6) = true := by decide +kernel

/-- A resolved set whose power entry is (1, 1) and whose frequency entry is (5, 3). -/
def resolved : State := { zero with status := 4, msrc := 1, mset := #v[⟨1, 1⟩, ⟨1, 3⟩, ⟨1, 1⟩, ⟨1, 3⟩, ⟨5, 3⟩] }

/-- V-S10, V-S13, V-S15. -/
theorem test_scale16 :
    ends (exec (.scale16 0 .power) (withRegs [1730] 6 resolved)) (fun t => t.acc = ⟨1730, 1⟩ ∧ t.accv) = true ∧
    ends (exec (.scale16 4 .frequency) (withRegs [0, 0, 0, 0, 1] 6 resolved)) (fun t => t.acc = ⟨5, 3⟩) = true ∧
    ends (exec (.scale16 0 .raw) (withRegs [1730] 6 zero)) (fun t => t.acc = ⟨1730, 0⟩ ∧ t.accv) = true := by
  decide +kernel

/-- V-S14, V-S16. -/
theorem test_scale16_errors :
    ends (exec (.scale16 0 .power) (withRegs [1730] 6 zero)) (fun t => t.err = 0x32 ∧ t.faults = 0x80) = true ∧
    ends (exec (.scale16 6 .power) (withRegs [1730] 6 { resolved with status := 0b1100, acc := ⟨9, 1⟩ }))
      (fun t => t.err = 0x30 ∧ t.accv = false ∧ t.acc = ⟨9, 1⟩) = true := by decide +kernel

/-- V-S11, V-S12, V-S17. -/
theorem test_scale32 :
    ends (exec (.scale32 4 .power) (withRegs [0, 0, 0, 0, 1, 5000] 6 resolved)) (fun t => t.acc = ⟨70536, 1⟩) = true ∧
    ends (exec (.scale32 4 .power) (withRegs [0, 0, 0, 0, 1, 5000] 6 { resolved with cfg := 1 }))
      (fun t => t.acc = ⟨327680001, 1⟩) = true ∧
    ends (exec (.scale32 0 .power) (withRegs [0xFFFF, 0xFFFF] 2
        { resolved with mset := Vector.replicate 5 ⟨4294967295, 15⟩ }))
      (fun t => t.acc = ⟨18446744065119617025, 15⟩) = true := by decide +kernel

/-- V-S16. -/
theorem test_scale32_past_the_block : ends (exec (.scale32 5 .power) (withRegs [] 6 resolved))
    (fun t => t.err = 0x30 ∧ t.faults = 0x20) = true := by decide +kernel

/-- V-S18. -/
theorem test_p3fix :
    ends (exec .p3fix { zero with status := 8, acc := ⟨130000, 0⟩ }) (fun t => t.acc = ⟨130000, 1⟩) = true ∧
    ends (exec .p3fix { zero with status := 8, acc := ⟨1000000, 1⟩ }) (fun t => t.acc = ⟨1000000, 1⟩) = true ∧
    ends (exec .p3fix { zero with status := 8, acc := ⟨1000001, 1⟩ }) (fun t => t.acc = ⟨1000001, 2⟩) = true := by
  decide +kernel

/-- V-S19. -/
theorem test_p3fix_not_ready : ends (exec .p3fix zero) (fun t => t.err = 0x32) = true := by decide +kernel

/-- V-D10, V-D3, V-D7. -/
theorem test_decode :
    ends (exec .decode { withRegs [1730, 0, 0, 0, 1, 5000] 22 zero with
        scalar := 3, status := 2, nfd := 2, fd := putAll zero.fd 0 [0x00001000, 0x00003084] })
      (fun t => outAt t 0 = ⟨1730, 1, 0⟩ ∧ outAt t 1 = ⟨70536, 1, 0⟩ ∧ t.outn = 2 ∧ t.outv ∧ t.scalused = 3 ∧
        t.midx = 3) = true ∧
    ends (exec .decode { withRegs [7] 22 zero with nfd := 1, fd := put zero.fd 0 0x00000500 })
      (fun t => outAt t 0 = ⟨7, 0, 0⟩ ∧ t.status = 0b110100 ∧ t.faults = 0x100) = true := by decide +kernel

/-- V-D1, V-D4, V-D5, V-D6. -/
theorem test_decode_errors :
    ends (exec .decode { zero with regn := 21, status := 0b10000 })
      (fun t => t.err = 0x30 ∧ t.outv = false ∧ t.msetv = false ∧ t.faults = 0x20) = true ∧
    ([0x00000016, 0x00000095, 0x00000600, 0x00005000, 0x00008000] : List Word).all (fun d =>
      ends (exec .decode { zero with regn := 22, nfd := 1, fd := put zero.fd 0 d })
        fun t => t.err = 0x31 ∧ t.faults = 0x40 ∧ t.outv = false) = true := by decide +kernel

/-- V-F1, V-F3, V-F8, V-F13. -/
theorem test_filter :
    ends (exec .filter (oneField 0x2000 ⟨60000, 1, 0⟩ 0)) (fun t => outAt t 0 = ⟨60000, 2, 0b0010⟩) = true ∧
    ends (exec .filter (oneField 0x2000 ⟨5000, 0, 0⟩ 0)) (fun t => outAt t 0 = ⟨5000, 0, 0⟩) = true ∧
    ends (exec .filter (oneField 0x1000 ⟨250000, 0, 0⟩ 0)) (fun t => outAt t 0 = ⟨250000, 1, 0b0010⟩) = true ∧
    ends (exec .filter (oneField 0x3000 ⟨10000000001, 1, 0⟩ 0)) (fun t => outAt t 0 = ⟨10000000001, 3, 0b0100⟩) = true := by
  decide +kernel

/-- V-F14, V-F16, V-F18, V-F20. -/
theorem test_filter_frequency :
    ends (exec .filter (oneField 0x400A ⟨30000, 3, 0⟩ 6000)) (fun t => outAt t 0 = ⟨6000, 2, 0b1000⟩) = true ∧
    ends (exec .filter (oneField 0x400A ⟨65000, 3, 0⟩ 13000)) (fun t => outAt t 0 = ⟨65000, 3, 0⟩) = true ∧
    ends (exec .filter (oneField 0x400A ⟨65005, 3, 0⟩ 13001)) (fun t => outAt t 0 = ⟨65005, 3, 0b1000⟩) = true ∧
    ends (exec .filter (oneField 0x400A ⟨3250, 3, 0⟩ 650)) (fun t => outAt t 0 = ⟨3250, 3, 0⟩) = true := by
  decide +kernel

/-- The request bytes of V-B1, V-B6, V-B12, V-B15, in `TXBUF`. -/
theorem test_requests :
    ends (exec (.reqReadHolding 1 4000 22 0x32C7) zero)
      (fun t => firstN t.txbuf 8 = [0x01, 0x03, 0x0F, 0xA0, 0x00, 0x16, 0xC7, 0x32] ∧ t.txlen = 8) = true ∧
    ends (exec (.reqReadInput 1 0x7531 2 0x083A) zero)
      (fun t => firstN t.txbuf 8 = [0x01, 0x04, 0x75, 0x31, 0x00, 0x02, 0x3A, 0x08] ∧ t.txlen = 8) = true ∧
    ends (exec (.reqWriteSingle 1 1 3 0x0B98) zero)
      (fun t => firstN t.txbuf 8 = [0x01, 0x06, 0x00, 0x01, 0x00, 0x03, 0x98, 0x0B] ∧ t.txlen = 8) = true ∧
    ends (exec (.reqWriteMultiple 1 1 [10, 258] 0x3092) zero)
      (fun t => firstN t.txbuf 13 =
        [0x01, 0x10, 0x00, 0x01, 0x00, 0x02, 0x04, 0x00, 0x0A, 0x01, 0x02, 0x92, 0x30] ∧ t.txlen = 13) = true := by
  decide +kernel

/-- The reply bytes of V-P1, V-P22, V-P26, V-P28, V-P7, in `RXBUF`. -/
theorem test_replies :
    ends (exec (.rspReadHolding 1 [1730, 5] 0x449B) zero)
      (fun t => firstN t.rxbuf 9 = [0x01, 0x03, 0x04, 0x06, 0xC2, 0x00, 0x05, 0x9B, 0x44] ∧ t.rxlen = 9) = true ∧
    ends (exec (.rspReadInput 1 [1, 2] 0x852B) zero)
      (fun t => firstN t.rxbuf 9 = [0x01, 0x04, 0x04, 0x00, 0x01, 0x00, 0x02, 0x2B, 0x85] ∧ t.rxlen = 9) = true ∧
    ends (exec (.rspWriteSingle 1 1 3 0x0B98) zero)
      (fun t => firstN t.rxbuf 8 = [0x01, 0x06, 0x00, 0x01, 0x00, 0x03, 0x98, 0x0B] ∧ t.rxlen = 8) = true ∧
    ends (exec (.rspWriteMultiple 1 1 2 0x0810) zero)
      (fun t => firstN t.rxbuf 8 = [0x01, 0x10, 0x00, 0x01, 0x00, 0x02, 0x10, 0x08] ∧ t.rxlen = 8) = true ∧
    ends (exec (.rspError 1 0x83 2 0xF1C0) zero)
      (fun t => firstN t.rxbuf 5 = [0x01, 0x83, 0x02, 0xC0, 0xF1] ∧ t.rxlen = 5) = true := by decide +kernel

/-! ### Host accesses and steps -/

/-- V-X3. -/
theorem test_faults_write_one_to_clear :
    ends (act (.write 0x0C 4 0x030) { zero with faults := 0x138 }) (fun t => t.faults = 0x108) = true := by decide +kernel

/-- 30_encoding.md R81: the word 0x12000101 is illegal (V-C16). -/
theorem test_illegal_word :
    ends (act (.write 0x000 4 0x12000101) zero)
      (fun t => t.err = 0x01 ∧ t.faults = 1 ∧ t.cmd = 0x12000101 ∧ t.crc = 0xFFFF) = true := by decide +kernel

/-- 20_memory.md R61, R62, R63: `TXBUF[255]` at 0x1FF; an unmapped word; an access with no step. -/
theorem test_bus :
    ends (act (.read 0x7FC 4) { zero with txbuf := put zero.txbuf 255 0xAB }) (fun t => t.rdata = 0xAB) = true ∧
    ends (act (.read 0x01C 4) { zero with rdata := 9 }) (fun t => t.rdata = 0) = true ∧
    stuck (act (.read 0x1400 4) zero) = true ∧ stuck (act (.write 0x002 4 0) zero) = true ∧
    stuck (act (.write 0x000 2 0) zero) = true := by decide +kernel

/-- 95_test_vectors.md P1 step 1: `READREQ 1, 3, 44602, 1`. -/
theorem test_readreq : ends (actAll (expand 0 (.readreq 1 3 44602 1)) zero)
    (fun t => firstN t.txbuf 8 = [0x01, 0x03, 0x11, 0xF9, 0x00, 0x01, 0x51, 0x07] ∧ t.txlen = 8 ∧ t.waddr = 4601 ∧
      t.crc = 0x0751 ∧ t.cmd = 0x21000000) = true := by decide +kernel

/-- The very next step runs the placed word. -/
theorem test_placed_word : ends (step (zero.withFetchWord 32 0x4000FFFF))
    (fun t => t.scalar = 0xFFFF ∧ t.scalv ∧ t.pc = 1) = true := by decide +kernel

/-! ### Witnesses: for each obligation with hypotheses, a state and operands that meet them, at the ends of the ranges of
its clauses -/

theorem witness_DecodeOfEncodeIsTheInstruction :
    (Instr.crcbuf .rx 256).wf false = true ∧ Instr.filter.wf true = true ∧
    (Instr.reqWriteMultiple 1 0 (List.replicate 123 7) 0).wf true = true ∧ (Instr.rspError 1 0x83 2 0).wf true = true := by
  decide +kernel

theorem witness_EncodeOfDecodeIsTheImage :
    decodeImage true (.command 0x12000100) = .ok (.crcbuf .tx 256) ∧
    decodeImage true (.frame .rx [1, 0x83, 2, 0xC0, 0xF1]) = .ok (.rspError 1 0x83 2 0xF1C0) := by decide +kernel

theorem witness_DecoderAgreesWithTheOpcodeTable :
    (⟨"SCALE16", 0x44000000, 0xFFFFF880⟩ : Row) ∈ opcodeRows ∧ 0x4400057F#32 &&& 0xFFFFF880#32 = 0x44000000#32 := by
  decide +kernel

/-- An unassigned opcode, a reserved field value, and `FILTER` in a block without the filter. -/
theorem witness_IllegalWordRaisesIllegalCommand :
    (∀ r ∈ opcodeRows, ¬0x51000000#32 &&& r.mask = r.pattern) ∧
    (∀ r ∈ opcodeRows, ¬(0x44000600#32 &&& r.mask = r.pattern ∧ fieldsLegal r 0x44000600#32 = true)) ∧
    ∀ r ∈ opcodeRows, ¬(0x50000000#32 &&& r.mask = r.pattern ∧
      (r.pattern = 0x50000000#32 → { zero.params with hasFilter := false }.hasFilter = true)) := by decide +kernel

theorem witness_StepRunsTheDecodedInstruction :
    { zero with prog := [.write 0 4 0x10000000] }.prog[zero.pc]? = some (.write zero.params.base 4 0x10000000) ∧
    decodeCommand zero.params.hasFilter 0x10000000 = .ok .crcinit ∧
    { zero with prog := [.load .rx [1, 0x83, 2, 0xC0, 0xF1]] }.prog[zero.pc]? = some (.load .rx [1, 0x83, 2, 0xC0, 0xF1]) ∧
    decodeFrame .rx [1, 0x83, 2, 0xC0, 0xF1] = .ok (.rspError 1 0x83 2 0xF1C0) ∧ zero.prog.length ≤ zero.pc ∧
    { zero with prog := [.read 0x14FC 4] }.prog[zero.pc]? = some (.read 0x14FC 4) := by
  decide +kernel

theorem witness_StepRunsThePlacedTableWord :
    zero.params.hasFilter = true ∧ decodeTableWord 32 0x50000000 = some .filter ∧
    decodeTableWord 8 0x03 = some (.reqReadHolding 0 0 0 0) ∧ decodeTableWord 8 0x80 = some (.rspError 0 0x80 0 0) := by
  decide +kernel

theorem witness_HostAccessStuckExactlyOutside :
    ¬((5120 : Nat) < zero.params.base + 4 * 0x500) ∧ ¬(((2 : Nat) - zero.params.base) % 4 = 0) ∧
    zero.params.base ≤ 5116 ∧ (5116 : Nat) < zero.params.base + 4 * 0x500 ∧ ((5116 : Nat) - zero.params.base) % 4 = 0 := by
  decide +kernel

/-- Offsets and indices at the ends of the map's ranges, each word with a value of its own. -/
theorem witness_HostReadReturnsTheWord :
    (0x4FF < 0x500 ∧ (4 : Nat) < 5 ∧ (122 : Nat) < 123 ∧ (255 : Nat) < 256 ∧ (125 : Nat) < 126 ∧ (63 : Nat) < 64) ∧
    readWord { zero with devaddr := 0x80000001, func := 2 } 0x008 = 0x80000001 ∧
    readWord { zero with rkind := 5, rflags := 10 } 0x011 = 5 ∧
    [0x024, 0x025, 0x026].map (readWord { zero with acc := ⟨0x123456789ABCDEF0, 0x1F⟩ }) =
      [0x9ABCDEF0, 0x12345678, 0x1F] ∧
    [0x4FC, 0x4FD, 0x4FE, 0x4FF].map
      (readWord { zero with out := put zero.out 63 ⟨0x123456789ABCDEF0, 0x1E, 0xD⟩ }) =
      [0x9ABCDEF0, 0x12345678, 0x1E, 0xD] := by decide +kernel

theorem witness_HostWriteTouchesOneWord :
    ((0x001 : Nat) ≠ 0 ∧ 0x001 < 0x500) ∧ ((0x4FF : Nat) ≠ 0 ∧ 0x4FF < 0x500) ∧
    readWord (writeWord zero 0x37D 0x12345678) 0x37D = 0x5678 := by decide +kernel

/-- The last words of the writable arrays are mapped, and the first and last words of each unmapped range are not. -/
theorem witness_HostWriteStoresItsPart :
    [0x038, 0x039, 0x0FA, 0x1FF, 0x2FF, 0x37D, 0x3BF].map locate =
      [some (.manM 4), some (.manE 4), some (.val 122), some (.txbuf 255), some (.rxbuf 255), some (.reg 125),
        some (.fd 63)] ∧
    ([0x007, 0x01B, 0x01F, 0x029, 0x02F, 0x03A, 0x03F, 0x04A, 0x07F, 0x0FB, 0x0FF, 0x37E, 0x37F, 0x3C0,
      0x3FF].all fun o => (locate o).isNone) = true := by decide +kernel

theorem witness_RegisterMapIsOneToOne : locate 0x4FF = some (.outFl 63) := by decide +kernel

theorem witness_LoadLineIsItsBusWrites : (List.replicate 256 0xFF#8).length ≤ 256 := by decide +kernel

/-- A step between two states, from one that meets the invariant. -/
theorem witness_StepKeepsTheInvariant : zero.Inv ∧ step zero = .next zero := by
  refine ⟨⟨?_, ?_, ?_, ?_, ?_, ?_, ?_, ?_, ?_, ?_, ?_, ?_, ?_, ?_, ?_⟩, rfl⟩
  case refine_13 =>
    intro i hi
    exact absurd (show i < (0#7).toNat from hi) (by simp)
  all_goals decide +kernel

theorem witness_ExecWritesOnlyItsListedRegisters :
    (∃ t, exec .crcinit zero = .next t) ∧ locate 0x010 = some .rxlen ∧ mayWrite .crcinit .rxlen = false := by
  exact ⟨⟨_, rfl⟩, by decide +kernel⟩

theorem witness_FaultBitsAreSticky :
    (∃ t, exec .p3fix { zero with faults := 0x100 } = .next t) ∧ { zero with faults := 0x100 }.faults.getLsbD 8 = true := by
  exact ⟨⟨_, rfl⟩, by decide +kernel⟩

/-- An operation that ends with 0, and one that ends with a code. -/
theorem witness_ResultCodeSetsExactlyItsFaultBit :
    isCommand .nop = true ∧ isCommand .p3fix = true ∧ ends (exec .nop zero) (fun t => t.err = 0) = true ∧
    ends (exec .p3fix zero) (fun t => t.err = 0x32) = true := by decide +kernel

theorem witness_OperationsRaiseOnlyTheirCodes : ∃ t, exec .explen { zero with txlen := 257 } = .next t := ⟨_, rfl⟩

theorem witness_DefaultSetIsNeverSelected : ∃ t, exec .resolve zero = .next t := ⟨_, rfl⟩

theorem witness_CrcbufOfAPrefix :
    (lenOf { zero with txlen := 256 } .tx ≤ 256 ∧ (256#9).toNat ≤ lenOf { zero with txlen := 256 } .tx) ∧
    256 < lenOf { zero with rxlen := 257 } .rx ∧ lenOf { zero with txlen := 5 } .tx < (6#9).toNat := by decide +kernel

theorem witness_CrcappClosesTheFrame :
    { zero with txlen := 254 }.txlen.toNat ≤ 254 ∧ 254 < { zero with txlen := 255 }.txlen.toNat := by decide +kernel

theorem witness_CrcvfyChecksTheFrameInvariant :
    2 ≤ lenOf { zero with txlen := 2 } .tx ∧ lenOf { zero with rxlen := 256 } .rx ≤ 256 ∧
    256 < lenOf { zero with rxlen := 257 } .rx ∧ lenOf { zero with txlen := 1 } .tx < 2 := by decide +kernel

/-- The state of V-B1 before `BUILD`. -/
def vb1 : State := { zero with devaddr := 1, func := 3, regaddr := 44001, count := 22 }

theorem witness_ClosedFramesVerify :
    ends (exec .crcapp zero) (fun t => t.err = 0) = true ∧ ends (exec .build vb1) (fun t => t.err = 0) = true := by
  decide +kernel

theorem witness_AddrconvConvertsTheLogicalAddress :
    { zero with regaddr := 40000 }.regaddr.toNat < 40001 ∧ 40001 ≤ { zero with regaddr := 40001 }.regaddr.toNat ∧
    { zero with regaddr := 105536 }.regaddr.toNat ≤ 105536 ∧ 105536 < { zero with regaddr := 105537 }.regaddr.toNat := by
  decide +kernel

/-- One state for each rejected condition (V-B20 to V-B29), and the largest accepted values (V-B8, V-B17). -/
theorem witness_BuildRejectsExactlyTheMalformedInputs :
    ([{ vb1 with devaddr := 0 }, { vb1 with devaddr := 248 }, { vb1 with func := 5 }, { vb1 with regaddr := 105537 },
      { vb1 with count := 126 }, { vb1 with func := 16, count := 124 }, { vb1 with func := 6, nval := 124 },
      { vb1 with func := 16, count := 2, nval := 1 }, { vb1 with func := 6, nval := 1, val := put zero.val 0 0x10000 },
      { vb1 with func := 16, count := 2, nval := 2, val := put zero.val 1 0x10000 }].all buildRejects) = true ∧
    buildRejects { vb1 with devaddr := 247, regaddr := 105536, count := 125 } = false ∧
    buildRejects { vb1 with func := 16, count := 123 } = false := by decide +kernel

theorem witness_BuiltFrameDecodesToItsRequest :
    ends (exec .build vb1) (fun t => t.err = 0) = true ∧
    ends (exec .build { vb1 with func := 4 }) (fun t => t.err = 0) = true ∧
    ends (exec .build { vb1 with func := 6, nval := 1 }) (fun t => t.err = 0) = true ∧
    ends (exec .build { vb1 with func := 16, count := 2, nval := 2 }) (fun t => t.err = 0) = true := by decide +kernel

theorem witness_BuildPostconditions : ends (exec .build vb1) (fun t => t.err = 0) = true := by decide +kernel

theorem witness_ExplenOfTheRequest :
    { zero with txlen := 5 }.txlen.toNat < 6 ∧
    (6 ≤ { zero with txlen := 6 }.txlen.toNat ∧ (txAt (withTx [1, 4, 0, 0, 0, 1] zero) 1).toNat = 4) ∧
    ({ zero with txlen := 256 }.txlen.toNat ≤ 256 ∧ (txAt (withTx [1, 16, 0, 0, 0, 1] zero) 1).toNat = 16) ∧
    (txAt (withTx [1, 0x2B, 0, 0, 0, 0] zero) 1).toNat = 43 ∧ 256 < { zero with txlen := 257 }.txlen.toNat := by
  decide +kernel

theorem witness_ParseOfNoReplyClearsTheResults :
    256 < { zero with rxlen := 257 }.rxlen.toNat ∧ 256 < { zero with txlen := 257 }.txlen.toNat ∧
    { zero with rxlen := 2 }.rxlen.toNat < 3 ∧ { zero with txlen := 256 }.txlen.toNat ≤ 256 := by decide +kernel

/-- The premises shared by the parser statements: a response of 3 to 256 bytes and a request of at most 256. -/
def sized (s : State) : Bool := decide (3 ≤ s.rxlen.toNat ∧ s.rxlen.toNat ≤ 256 ∧ s.txlen.toNat ≤ 256)

def goodCrc (s : State) : Bool := crcGood (firstN s.rxbuf s.rxlen.toNat)

/-- The three clauses: a bad CRC (V-P11), an error reply (V-P7), an unlisted function (V-P4, three bytes). -/
theorem witness_ParseRejectsByHeader :
    (sized (withRx [1, 0x83, 2, 0xC0, 0x0E] asked) = true ∧ zero.crcchk = true ∧
      goodCrc (withRx [1, 0x83, 2, 0xC0, 0x0E] asked) = false) ∧
    (sized (withRx [1, 0x83, 2, 0xC0, 0xF1] asked) = true ∧ goodCrc (withRx [1, 0x83, 2, 0xC0, 0xF1] asked) = true ∧
      128 ≤ (rxAt (withRx [1, 0x83, 2, 0xC0, 0xF1] asked) 1).toNat) ∧
    (sized (withRx [1, 0x7E, 0x80] asked) = true ∧ goodCrc (withRx [1, 0x7E, 0x80] asked) = true ∧
      (rxAt (withRx [1, 0x7E, 0x80] asked) 1).toNat = 126) := by decide +kernel

theorem witness_ErrorReplyIsNeverARead :
    3 ≤ (withRx [1, 0x83, 2, 0xC0, 0xF1] zero).rxlen.toNat ∧ 128 ≤ (rxAt (withRx [1, 0x83, 2, 0xC0, 0xF1] zero) 1).toNat ∧
    ∃ t, exec .parse (withRx [1, 0x83, 2, 0xC0, 0xF1] zero) = .next t := by
  exact ⟨by decide +kernel, by decide +kernel, _, rfl⟩

/-- Truncated (V-P13, no CRC check), an odd byte-count (V-P15), another count than asked (V-P16), and read (V-P1). -/
theorem witness_ParseOfAReadReply :
    (sized (withRx [1, 3, 4, 6, 0xC2, 0] { asked with cfg := 2 }) = true ∧ { asked with cfg := 2 }.crcchk = false ∧
      (withRx [1, 3, 4, 6, 0xC2, 0] asked).rxlen.toNat < 3 + (rxAt (withRx [1, 3, 4, 6, 0xC2, 0] asked) 2).toNat) ∧
    (sized (withRx [1, 3, 3, 1, 2, 3, 0x55, 0x2F] asked) = true ∧
      goodCrc (withRx [1, 3, 3, 1, 2, 3, 0x55, 0x2F] asked) = true ∧
      3 + (rxAt (withRx [1, 3, 3, 1, 2, 3, 0x55, 0x2F] asked) 2).toNat ≤ 8) ∧
    (sized (withRx [1, 3, 2, 0, 3, 0xF8, 0x45] asked) = true ∧ goodCrc (withRx [1, 3, 2, 0, 3, 0xF8, 0x45] asked) = true ∧
      6 ≤ asked.txlen.toNat ∧ (txAt asked 1).toNat = 3 ∧ 2 ≠ 2 * ((txAt asked 4).toNat * 256 + (txAt asked 5).toNat)) ∧
    (sized (withRx [1, 3, 4, 6, 0xC2, 0, 5, 0x9B, 0x44] asked) = true ∧
      goodCrc (withRx [1, 3, 4, 6, 0xC2, 0, 5, 0x9B, 0x44] asked) = true ∧
      4 = 2 * ((txAt asked 4).toNat * 256 + (txAt asked 5).toNat)) := by decide +kernel

/-- Five bytes without the CRC check, and the six of V-P29. -/
theorem witness_ParseOfAnEchoReply :
    (sized (withRx [1, 6, 0, 1, 0] { zero with cfg := 2 }) = true ∧ { zero with cfg := 2 }.crcchk = false ∧
      (withRx [1, 6, 0, 1, 0] zero).rxlen.toNat < 6) ∧
    (sized (withRx [1, 6, 0, 1, 0x20, 0x19] zero) = true ∧ goodCrc (withRx [1, 6, 0, 1, 0x20, 0x19] zero) = true ∧
      (rxAt (withRx [1, 6, 0, 1, 0x20, 0x19] zero) 1).toNat = 6 ∧
      6 ≤ (withRx [1, 6, 0, 1, 0x20, 0x19] zero).rxlen.toNat) := by decide +kernel

theorem witness_FailedParseCannotBeDecoded :
    ends (exec .parse zero) (fun t => t.err ≠ 0 ∧ t.nfd.toNat ≤ 64) = true := by decide +kernel

theorem witness_LoadedReadReplyParsesToItsRegisters :
    ([1730, 5] : List Half).length ≤ 125 ∧ zero.txlen.toNat ≤ 256 ∧ ¬6 ≤ zero.txlen.toNat ∧
    0x449B#16 = crc16 (1 :: 0x03 :: BitVec.ofNat 8 (2 * ([1730, 5] : List Half).length) ::
      ([1730, 5] : List Half).flatMap be16) ∧
    ends (exec (.rspReadHolding 1 [1730, 5] 0x449B) zero) (fun _ => true) = true := by decide +kernel

theorem witness_ScalarCacheOperations :
    126 < { zero with regn := 127 }.regn.toNat ∧ { zero with regn := 126 }.regn.toNat ≤ (126#7).toNat ∧
    (125#7).toNat < { zero with regn := 126 }.regn.toNat := by decide +kernel

/-- The scalars around each boundary of R185, and the manual set. -/
theorem witness_ResolveSelectsTheSet :
    { zero with cfg := 7 }.manual = true ∧ zero.manual = false ∧
    (ends (exec .resolve { zero with status := 2, scalar := 15 }) fun t => t.scalused.toNat = 15) = true ∧
    (ends (exec .resolve { zero with status := 2, scalar := 6 }) fun t => t.scalused.toNat = 6) = true ∧
    (ends (exec .resolve { zero with status := 2, scalar := 7 }) fun t => t.scalused.toNat = 7) = true := by decide +kernel

theorem witness_LargeScalarsClampToSix :
    6 ≤ (16#16).toNat ∧ (16#16).toNat ≠ 15 ∧ { zero with status := 2 }.manual = false ∧
    { zero with status := 2 }.scalv = true ∧ (∃ t, exec .resolve { zero with status := 2, scalar := 16 } = .next t) ∧
    ∃ u, exec .resolve { zero with status := 2, scalar := 6 } = .next u := by
  exact ⟨by decide, by decide, by decide +kernel, by decide +kernel, ⟨_, rfl⟩, ⟨_, rfl⟩⟩

theorem witness_Scale16IsExact :
    126 < { zero with regn := 127 }.regn.toNat ∧ zero.msetv = false ∧ resolved.msetv = true ∧
    { resolved with regn := 6 }.regn.toNat ≤ (6#7).toNat ∧ (5#7).toNat < { resolved with regn := 6 }.regn.toNat := by
  decide +kernel

theorem witness_Scale32IsExact :
    126 < { zero with regn := 127 }.regn.toNat ∧ zero.msetv = false ∧ resolved.msetv = true ∧
    { resolved with regn := 6 }.regn.toNat ≤ (5#7).toNat + 1 ∧ (4#7).toNat + 1 < { resolved with regn := 6 }.regn.toNat := by
  decide +kernel

theorem witness_P3fixDividesOnceAboveTheThreshold :
    zero.accv = false ∧ { zero with status := 8 }.accv = true ∧
    100000 * 10 ^ (0#5).toNat < (100001#64).toNat ∧ (1000000#64).toNat ≤ 100000 * 10 ^ (1#5).toNat := by decide +kernel

/-- The four clauses: too large, too few registers in each mode, and an invalid descriptor of each kind. -/
theorem witness_FailingDecodeOnlyClearsOutv :
    (126 < { zero with regn := 127 }.regn.toNat ∧ 64 < { zero with nfd := 65 }.nfd.toNat) ∧
    ({ zero with regn := 21 }.regn.toNat < 22 ∧ zero.detailed = false ∧ { zero with cfg := 0xB }.detailed = true ∧
      { zero with regn := 63 }.regn.toNat < 64) ∧
    ((0x00008000#32).extractLsb' 15 17).toNat ≠ 0 ∧ 5 < ((0x00000600#32).extractLsb' 8 3).toNat ∧
    4 < ((0x00005000#32).extractLsb' 12 3).toNat ∧
    22 ≤ ((0x00000095#32).extractLsb' 0 7).toNat + (if (0x00000095#32).getLsbD 7 then 1 else 0) := by decide +kernel

/-- V-D3: a block of 22 registers and a descriptor of the last one. -/
theorem witness_DecodeAssemblesEveryField :
    let s := { zero with regn := 22, nfd := 1, fd := put zero.fd 0 0x15 }
    s.regn.toNat ≤ 126 ∧ s.nfd.toNat ≤ 64 ∧ s.detailed = false ∧ 22 ≤ s.regn.toNat ∧
    ∀ k, k < s.nfd.toNat → ((fdAt s k).extractLsb' 15 17).toNat = 0 ∧ ((fdAt s k).extractLsb' 8 3).toNat ≤ 5 ∧
      ((fdAt s k).extractLsb' 12 3).toNat ≤ 4 ∧
      ((fdAt s k).extractLsb' 0 7).toNat + (if (fdAt s k).getLsbD 7 then 1 else 0) < 22 := by decide +kernel

theorem witness_FailingFilterChangesNoField :
    126 < { zero with regn := 127 }.regn.toNat ∧ zero.outv = false ∧ zero.outn.toNat ≤ 64 ∧
    (oneField 0x4016 ⟨0, 0, 0⟩ 0).outv = true ∧ ((fdAt (oneField 0x4016 ⟨0, 0, 0⟩ 0) 0).extractLsb' 12 3).toNat = 4 ∧
    (oneField 0x4016 ⟨0, 0, 0⟩ 0).regn.toNat ≤ ((fdAt (oneField 0x4016 ⟨0, 0, 0⟩ 0) 0).extractLsb' 0 7).toNat := by
  decide +kernel

/-- An entry of each role, the frequency role with its register inside the block. -/
theorem witness_FilterCorrectsEachFieldByRole :
    let s := oneField 0x400A ⟨30000, 3, 0⟩ 6000
    s.outn.toNat ≤ 64 ∧ s.regn.toNat ≤ 126 ∧ s.outv = true ∧
    (∀ k, k < s.outn.toNat → ((fdAt s k).extractLsb' 12 3).toNat = 4 →
      ((fdAt s k).extractLsb' 0 7).toNat < s.regn.toNat) ∧
    ([0x400A, 0x3000, 0x2000, 0x1000, 0x0000, 0x7000].map fun d =>
      ((fdAt (oneField d ⟨1, 0, 0⟩ 0) 0).extractLsb' 12 3).toNat) = [4, 3, 2, 1, 0, 7] := by decide +kernel

theorem witness_RequestFramesLoadIntoTxbuf :
    (List.replicate 123 0#16).length ≤ 123 ∧ 123 < (List.replicate 124 0#16).length := by decide +kernel

theorem witness_ReplyFramesLoadIntoRxbuf :
    (List.replicate 125 0#16).length ≤ 125 ∧ 125 < (List.replicate 126 0#16).length := by decide +kernel

end Sys2Proof.Tests
end

/-! ### The block's invariant (10_state.md R25 to R46) -/

namespace Sys2Proof.Machine

section
variable {s t : State}

/-! One bit of a register after it, or another, was written. -/

theorem getLsbD_setBit_ne {w : Nat} (v : BitVec w) {i j : Nat} (hij : i ≠ j) (b : Bool) :
    (setBit v i b).getLsbD j = v.getLsbD j := by
  rw [getLsbD_setBit, if_neg fun h => hij h.1]

theorem getLsbD_setBit_self {w : Nat} (v : BitVec w) {i : Nat} (hi : i < w) (b : Bool) :
    (setBit v i b).getLsbD i = b := by
  rw [getLsbD_setBit, if_pos ⟨rfl, hi⟩]

/-! Result codes and `FAULTS`: every way an operation ends keeps both within R250 and R27. -/

theorem codeOf_mem_errCodes (e : ErrCode) : codeOf e ∈ errCodes := by
  cases e <;> decide

theorem faultsReserved_setBit {f : BitVec 16} (h : f &&& 0xFE00#16 = 0#16) {k : Nat} (hk : k ≤ 8) :
    setBit f k true &&& 0xFE00#16 = 0#16 := by
  have outside : ∀ k ≤ 8, (0xFE00#16).getLsbD k = false := by decide
  rw [setBit_and _ _ _ _ (outside k hk), h]

theorem faultBit_le (e : ErrCode) : faultBit e ≤ 8 := by
  cases e <;> decide

/-- `STATUS` keeps its reserved bits and `BUSY` at 0 when one of its five flags is written. -/
theorem statusReserved_setBit {v : BitVec 32} (h : v &&& 0xFFFFFFC1#32 = 0#32) {k : Nat} (hk : 1 ≤ k ∧ k ≤ 5)
    (b : Bool) : setBit v k b &&& 0xFFFFFFC1#32 = 0#32 := by
  have outside : ∀ k ≤ 5, 1 ≤ k → (0xFFFFFFC1#32).getLsbD k = false := by decide
  rw [setBit_and _ _ _ _ (outside k hk.2 hk.1), h]

/-- An operation that ends as R255 says leaves `ERR` and `FAULTS` within the invariant. -/
theorem State.Inv.result_of_ends (h : s.Inv) {es : List ErrCode} (ht : Ends es s t) :
    t.err ∈ errCodes ∧ t.faults &&& 0xFE00#16 = 0#16 := by
  obtain ⟨herr, hfaults⟩ | ⟨e, -, herr, hfaults⟩ := ht
  · rw [herr, hfaults]
    exact ⟨by decide, h.faultsReserved⟩
  · rw [herr, hfaults]
    exact ⟨codeOf_mem_errCodes e, faultsReserved_setBit h.faultsReserved (faultBit_le e)⟩

theorem State.Inv.raise (h : s.Inv) (e : ErrCode) : (raise e s).Inv :=
  { h with
    err := codeOf_mem_errCodes e
    faultsReserved := faultsReserved_setBit h.faultsReserved (faultBit_le e) }

theorem State.Inv.finish (h : s.Inv) : (finish s).Inv :=
  { h with err := show (0x00 : BitVec 8) ∈ errCodes by decide }

/-- A flag of `STATUS` other than `MSETV` and `OUTV` stands in no condition. -/
theorem State.Inv.setStatusBit (h : s.Inv) {k : Nat} (hk : k = 1 ∨ k = 3) (b : Bool) :
    { s with status := setBit s.status k b }.Inv :=
  { h with
    statusReserved := statusReserved_setBit h.statusReserved (by omega) b
    resolved := by
      rw [State.msetv, getLsbD_setBit_ne s.status (by omega)]
      exact h.resolved
    decoded := by
      intro hout
      rw [State.outv, getLsbD_setBit_ne s.status (by omega)] at hout
      rw [State.msetv, getLsbD_setBit_ne s.status (by omega)]
      exact h.decoded hout }

theorem State.Inv.setScalv (h : s.Inv) (b : Bool) : (setScalv b s).Inv :=
  h.setStatusBit (.inl rfl) b

theorem State.Inv.setAccv (h : s.Inv) (b : Bool) : (setAccv b s).Inv :=
  h.setStatusBit (.inr rfl) b

@[simp] theorem setOutv_msetv (s : State) (b : Bool) : (setOutv b s).msetv = s.msetv :=
  getLsbD_setBit_ne s.status (by omega) b

@[simp] theorem setOutv_outv (s : State) (b : Bool) : (setOutv b s).outv = b :=
  getLsbD_setBit_self s.status (by omega) b

/-- Withdrawing the output block asks for nothing; publishing one needs a resolved set. -/
theorem State.Inv.setOutv (h : s.Inv) (b : Bool) (hset : b = true → s.msetv = true) : (setOutv b s).Inv :=
  { h with
    statusReserved := statusReserved_setBit h.statusReserved (by omega) b
    resolved := by simpa only [setOutv_msetv, setOutv_msrc] using h.resolved
    decoded := by simpa only [setOutv_msetv, setOutv_outv] using hset }

/-! Operations and loads that write no register the invariant speaks of, `ERR` and `FAULTS` apart. -/

/-- The registers the invariant speaks of, `ERR` and `FAULTS` apart. -/
def State.governed (s : State) :=
  (s.status, s.cfg, s.rkind, s.rmsg, s.msrc, s.midx, s.acc, s.outn, s.out, s.params)

/-- An operation that leaves the governed registers alone and ends as R255 says keeps the invariant. -/
theorem State.Inv.of_ends (h : s.Inv) {es : List ErrCode} (ht : Ends es s t) (hsame : t.governed = s.governed) :
    t.Inv := by
  obtain ⟨herr, hfaults⟩ := h.result_of_ends ht
  cases s
  cases t
  simp only [State.governed, Prod.mk.injEq] at hsame
  obtain ⟨rfl, rfl, rfl, rfl, rfl, rfl, rfl, rfl, rfl, rfl⟩ := hsame
  exact { h with err := herr, faultsReserved := hfaults }

theorem State.Inv.setTxFrame (h : s.Inv) (bytes : List Byte) : (setTxFrame bytes s).Inv :=
  { h with }

theorem State.Inv.setRxFrame (h : s.Inv) (bytes : List Byte) : (setRxFrame bytes s).Inv :=
  { h with }

/-- A load line that has a step keeps the invariant. -/
theorem State.Inv.loadFrame (h : s.Inv) {b : BufSel} {bytes : List Byte} (ht : loadFrame b bytes s = .next t) :
    t.Inv := by
  cases b with
  | tx =>
    obtain ⟨-, rfl⟩ := loadFrame_tx_next s bytes t ht
    exact h.setTxFrame bytes
  | rx =>
    obtain ⟨-, rfl⟩ := loadFrame_rx_next s bytes t ht
    exact h.setRxFrame bytes

/-! `PARSE`: the codes of `RKIND` and `RMSG` (R37, 42_frame_parser.md R158). -/

theorem msgIdx_mem_msgIndices (code : Byte) : msgIdx code ∈ msgIndices := by
  revert code
  decide +kernel

theorem State.Inv.parseClear (h : s.Inv) : (parseClear s).Inv :=
  { h with
    rkind := Nat.zero_le _
    rmsg := show (0 : BitVec 4) ∈ msgIndices by decide }

theorem State.Inv.parseHeader (h : s.Inv) : (parseHeader s).Inv :=
  { h with }

theorem State.Inv.parseError (h : s.Inv) : (parseError s).Inv :=
  have hcodes : { s with rkind := 4, rcode := rxAt s 2, rmsg := msgIdx (rxAt s 2) }.Inv :=
    { h with
      rkind := Nat.le_refl 4
      rmsg := msgIdx_mem_msgIndices (rxAt s 2) }
  hcodes.raise .protocol

theorem State.Inv.parseRead (h : s.Inv) : (parseRead s).Inv := by
  have hbc : { s with rbc := rxAt s 2 }.Inv := { h with }
  unfold Machine.parseRead
  simp only
  repeat' split
  · exact hbc.raise .frameTrunc
  · exact hbc.raise .frameCount
  · exact hbc.raise .frameCount
  · exact State.Inv.finish { h with rkind := show 1 ≤ 4 by omega }

theorem State.Inv.parseEcho (h : s.Inv) : (parseEcho s).Inv := by
  unfold Machine.parseEcho
  split
  · exact h.raise .frameTrunc
  · refine State.Inv.finish { h with rkind := ?_ }
    show BitVec.toNat (if (rxAt s 1).toNat = 6 then 2#3 else 3#3) ≤ 4
    split <;> decide

/-- The dispatch of steps 5 to 7 ends in one of the five stages above. -/
theorem State.Inv.parseBody (h : s.Inv) : (parseBody s).Inv := by
  unfold Machine.parseBody
  repeat' split
  · exact h.raise .frameCrc
  · exact h.parseError
  · exact h.parseRead
  · exact h.parseEcho
  · exact h.raise .frameFunc

theorem State.Inv.parse (h : s.Inv) : (parse s).Inv := by
  obtain ⟨-, hp⟩ | ⟨-, -, hp⟩ | ⟨-, -, -, hp⟩ := parse_cases s
  · exact hp ▸ h.parseClear.raise .operand
  · exact hp ▸ h.parseClear.raise .frameShort
  · exact hp ▸ h.parseClear.parseHeader.parseBody

/-! Resolution: the codes of `MSRC` and `MIDX`, and the set that goes with them (R25, R42, 43_scaling.md R184 to
R188). -/

theorem clampScalar_le (n : Nat) : clampScalar n ≤ 6 := by
  unfold clampScalar
  split
  · assumption
  · exact Nat.le_refl 6

theorem resolveScalar_status (s : State) : (resolveScalar s).status = setBit s.status 5 (!s.scalv) := by
  unfold resolveScalar
  split
  next hv => rw [hv]; rfl
  next hv => rw [Bool.eq_false_of_not_eq_true hv]; rfl

@[simp] theorem resolve_msetv (s : State) : (resolve s).msetv = true := by
  rw [State.msetv, resolve_status, getLsbD_setBit_self _ (by omega)]

@[simp] theorem resolve_outv (s : State) : (resolve s).outv = s.outv := by
  rw [State.outv, resolve_status, resolveScalar_status, getLsbD_setBit_ne _ (by omega), getLsbD_setBit_ne _ (by omega)]
  rfl

theorem resolve_msrc (s : State) : (resolve s).msrc ≠ 0#3 ∧ (resolve s).msrc.toNat ≤ 3 := by
  obtain ⟨-, -, hsrc, -⟩ | ⟨-, -, -, hsrc, -⟩ | ⟨-, -, -, hsrc, -⟩ := resolve_set s <;> rw [hsrc] <;> decide

theorem resolve_midx_le (s : State) : (resolve s).midx.toNat ≤ 6 := by
  have hclamp := clampScalar_le (resolve s).scalused.toNat
  obtain ⟨-, -, -, hidx⟩ | ⟨-, -, -, -, hidx⟩ | ⟨-, -, -, -, hidx⟩ := resolve_set s
  · rw [hidx]
    decide
  · rw [hidx]
    decide
  · rw [hidx, BitVec.toNat_ofNat]
    omega

theorem State.Inv.resolve_statusReserved (h : s.Inv) : (resolve s).status &&& 0xFFFFFFC1#32 = 0#32 := by
  rw [resolve_status, resolveScalar_status]
  exact statusReserved_setBit (statusReserved_setBit h.statusReserved (by omega) _) (by omega) true

theorem State.Inv.resolve_faultsReserved (h : s.Inv) : (resolve s).faults &&& 0xFE00#16 = 0#16 := by
  rw [resolve_faults]
  split
  · exact h.faultsReserved
  · exact faultsReserved_setBit h.faultsReserved (Nat.le_refl 8)

theorem State.Inv.resolve (h : s.Inv) : (resolve s).Inv := by
  obtain ⟨hsrc, hsrcLe⟩ := resolve_msrc s
  have hmsetv := resolve_msetv s
  have hstatus := h.resolve_statusReserved
  have hfaults := h.resolve_faultsReserved
  have hidx := resolve_midx_le s
  rw [resolve_frame] at hmsetv ⊢
  exact { h with
    statusReserved := hstatus
    faultsReserved := hfaults
    msrc := hsrcLe
    midx := hidx
    resolved := iff_of_true hmsetv hsrc
    decoded := fun _ => hmsetv }

/-! Exponents stay within their bounds (43_scaling.md R181 d): a value is divided by 10 or 100 only where it exceeds a
threshold, and a 64-bit mantissa leaves no room for that above a small exponent. -/

/-- Where the threshold at exponent `k` is beyond 64 bits, only a smaller exponent exceeds it. -/
theorem exponent_lt_of_exceeds {m : BitVec 64} {e : BitVec 5} {n : Nat} (k : Nat) (hk : 2 ^ 64 ≤ n * 10 ^ k)
    (h : exceeds m e n = true) : e.toNat < k := by
  by_contra hover
  have hpow : n * 10 ^ k ≤ n * 10 ^ e.toNat :=
    Nat.mul_le_mul_left n (Nat.pow_le_pow_right (by omega) (Nat.le_of_not_lt hover))
  have hlt : n * 10 ^ e.toNat < m.toNat := of_decide_eq_true h
  omega

theorem toNat_add_le (e k : BitVec 5) (n : Nat) (h : e.toNat + k.toNat ≤ n) : (e + k).toNat ≤ n := by
  rw [BitVec.toNat_add]
  exact (Nat.mod_le _ _).trans h

theorem scale_exponent_le (raw : Nat) (mu : Mult) : (scale raw mu).e.toNat ≤ 15 := by
  have := mu.e.isLt
  simp only [scale, BitVec.toNat_setWidth]
  omega

theorem State.Inv.scaleTo (h : s.Inv) (check : Option ErrCode) (raw : Nat) (c : MClass) :
    (scaleTo check raw c s).Inv := by
  cases check with
  | some e => exact (h.setAccv false).raise e
  | none =>
    have hacc : { s with acc := scale raw (mult s c) }.Inv := { h with accE := scale_exponent_le raw (mult s c) }
    exact (hacc.setAccv true).finish

theorem State.Inv.p3fix (h : s.Inv) : (p3fix s).Inv := by
  unfold Machine.p3fix
  split
  · exact h.raise .notReady
  · split
    next hover =>
      have hroom := exponent_lt_of_exceeds 15 (by norm_num) hover
      exact State.Inv.finish
        { h with accE := toNat_add_le s.acc.e 1 15 (show s.acc.e.toNat + 1 ≤ 15 by omega) }
    · exact h.finish

theorem decodeField_exponent_le (s : State) (d : Word) : (decodeField s d).e.toNat ≤ 16 := by
  obtain ⟨-, hfix, hplain⟩ := decodeField_cases s d
  have := (multNum s (fdClass d)).e.isLt
  by_cases hp : fdP3 d = true ∧
      100000 * 10 ^ (multNum s (fdClass d)).e.toNat < fdRaw s d * (multNum s (fdClass d)).m.toNat
  · rw [(hfix hp).1]
    omega
  · rw [(hplain hp).1]
    omega

/-- The entries `DECODE` writes are those of its descriptors. -/
theorem outAt_decodeOut (s : State) (hn : s.nfd.toNat ≤ 64) (i : Nat) (hi : i < s.nfd.toNat) :
    outAt (decodeOut s) i = decodeField s (fdAt s i) := by
  have hlen : ((firstN s.fd s.nfd.toNat).map (decodeField s)).length = s.nfd.toNat := by
    simp [Config.fdSize]
    omega
  have hget : (firstN s.fd s.nfd.toNat)[i]? = some (fdAt s i) := by
    have hlt : i < Config.fdSize := by simp only [Config.fdSize]; omega
    simp [firstN, fdAt, elem_eq, hi, hlt]
  show elem _ (putAll s.out 0 ((firstN s.fd s.nfd.toNat).map (decodeField s))) i = _
  rw [elem_putAll, if_pos ⟨by omega, by omega, by simp [Config.fdSize]; omega⟩]
  simp [List.getD_eq_getElem?_getD, hget]

theorem decodeOut_outn (s : State) (hn : s.nfd.toNat ≤ 64) : (decodeOut s).outn.toNat = s.nfd.toNat := by
  show (s.nfd.setWidth 7).toNat = _
  rw [BitVec.toNat_setWidth]
  omega

theorem State.Inv.decodeOut (h : s.Inv) (hset : s.msetv = true) (hn : s.nfd.toNat ≤ 64) : (decodeOut s).Inv := by
  have hcount := decodeOut_outn s hn
  refine { h.setOutv true (fun _ => hset) with outn := hcount ▸ hn, outE := fun i hi => ?_ }
  rw [outAt_decodeOut s hn i (hcount ▸ hi)]
  exact decodeField_exponent_le s _

theorem nfd_le_of_decodeCheck (h : decodeCheck s = none) : s.nfd.toNat ≤ 64 := by
  unfold decodeCheck at h
  split at h
  · cases h
  · omega

theorem State.Inv.decodeBlock (h : s.Inv) : (decodeBlock s).Inv := by
  cases hcheck : decodeCheck s with
  | some e =>
    rw [decodeBlock_error s e hcheck]
    exact (h.setOutv false (by simp)).raise e
  | none =>
    have hnfd : (Machine.resolve s).nfd = s.nfd := by rw [resolve_frame]
    rw [decodeBlock_pass s hcheck]
    exact (h.resolve.decodeOut (resolve_msetv s) (hnfd ▸ nfd_le_of_decodeCheck hcheck)).finish

/-! The filter's stages divide only above their ceilings, and a corrected frequency has a small exponent. -/

theorem powerStage_exponent_le (d : Word) {f : OutField} (hf : f.e.toNat ≤ 16) : (powerStage d f).e.toNat ≤ 16 := by
  unfold powerStage
  split
  next hover =>
    have := exponent_lt_of_exceeds 16 (by norm_num) hover.2
    exact toNat_add_le f.e 1 16 (show f.e.toNat + 1 ≤ 16 by omega)
  next =>
    split
    next hover =>
      have := exponent_lt_of_exceeds 16 (by norm_num) hover.2
      exact toNat_add_le f.e 1 16 (show f.e.toNat + 1 ≤ 16 by omega)
    next => exact hf

theorem energyStage_exponent_le (d : Word) {f : OutField} (hf : f.e.toNat ≤ 16) : (energyStage d f).e.toNat ≤ 16 := by
  unfold energyStage
  split
  next hover =>
    have := exponent_lt_of_exceeds 11 (by norm_num) hover.2
    exact toNat_add_le f.e 2 16 (show f.e.toNat + 2 ≤ 16 by omega)
  next => exact hf

theorem frequencyBand_exponent_le {raw : Nat} {v : Dec} (h : frequencyBand raw = some v) : v.e.toNat ≤ 3 := by
  unfold frequencyBand at h
  split_ifs at h <;> cases h
  · exact (by decide : (1#5).toNat ≤ 3)
  · exact (by decide : (2#5).toNat ≤ 3)
  · exact (by decide : (3#5).toNat ≤ 3)

theorem frequencyStage_exponent_le (s : State) (d : Word) {f : OutField} (hf : f.e.toNat ≤ 16) :
    (frequencyStage s d f).e.toNat ≤ 16 := by
  unfold frequencyStage
  split
  next =>
    split
    next v hband => exact (frequencyBand_exponent_le hband).trans (by omega)
    next => exact hf
  next => exact hf

theorem State.Inv.filterStages (h : s.Inv) : (filterStages s).Inv := by
  have hout : ∀ i, i < s.outn.toNat → (outAt (Machine.filterStages s) i).e.toNat ≤ 16 := by
    intro i hi
    rw [outAt_filterStages s h.outn i, if_pos hi]
    exact frequencyStage_exponent_le s _ (energyStage_exponent_le _ (powerStage_exponent_le _ (h.outE i hi)))
  obtain ⟨o, ho⟩ := filterStages_writes s
  rw [ho] at hout ⊢
  exact { h with outE := hout }

theorem State.Inv.filterBlock (h : s.Inv) : (filterBlock s).Inv := by
  cases hcheck : filterCheck s with
  | some e => exact filterBlock_error s e hcheck ▸ h.raise e
  | none => exact filterBlock_pass s hcheck ▸ h.filterStages.finish

theorem State.Inv.scalld (h : s.Inv) (idx : Nat) : (scalld idx s).Inv := by
  unfold Machine.scalld
  repeat' split
  · exact h.raise .operand
  · exact h.raise .decode
  · exact (State.Inv.setScalv (s := { s with scalar := regAt s idx }) { h with } true).finish

/-! Reset: the scalar registers at their values of R50, whatever they were. -/

/-- Settles O18: after reset nothing is resolved or decoded, and `MTAB[3].power` is the row R186 fixes. -/
theorem resetMeetsTheInvariant : Obligations.ResetMeetsTheInvariant where
  statusReserved := by decide
  faultsReserved := by decide
  cfgReserved := by decide
  err := show (0 : BitVec 8) ∈ errCodes by decide
  rkind := Nat.zero_le _
  rmsg := show (0 : BitVec 4) ∈ msgIndices by decide
  msrc := Nat.zero_le _
  midx := Nat.zero_le _
  outn := Nat.zero_le _
  resolved := iff_of_false Bool.false_ne_true (fun hne => hne rfl)
  decoded := fun hout => absurd hout Bool.false_ne_true
  accE := Nat.zero_le _
  outE := fun _ hi => absurd hi (Nat.not_lt_zero _)
  base := rfl
  rom3 := congrArg MtabRow.power (elem_tabulate _ romRow 3 (by omega : 3 < 7))

theorem State.Inv.softReset (h : s.Inv) : (softReset s).Inv :=
  { resetMeetsTheInvariant with
    outE := fun _ hi => absurd hi (Nat.not_lt_zero _)
    base := h.base
    rom3 := h.rom3 }

/-- Every instruction keeps the invariant. -/
theorem State.Inv.exec (h : s.Inv) {i : Instr} (ht : exec i s = .next t) : t.Inv := by
  cases hi : encode i with
  | frame b bytes =>
    rw [exec_of_frame s i b bytes hi] at ht
    exact h.loadFrame ht
  | command w =>
    cases i
    case nop => cases ht; exact h.finish
    case srst => cases ht; exact h.softReset.finish
    case crcinit => cases ht; exact State.Inv.finish { h with }
    case crcbyte imm8 => cases ht; exact State.Inv.finish { h with }
    case crcbuf sel len => cases ht; exact h.of_ends (crcbuf_ends s sel len.toNat) (by rw [crcbuf_frame]; rfl)
    case crcapp => cases ht; exact h.of_ends (crcapp_ends s) (by rw [crcapp_frame]; rfl)
    case crcvfy sel => cases ht; exact h.of_ends (crcvfy_ends s sel) (by rw [crcvfy_frame]; rfl)
    case addrconv => cases ht; exact h.of_ends (addrconv_ends s) (by rw [addrconv_frame]; rfl)
    case build => cases ht; exact h.of_ends (build_ends s) (by rw [build_frame]; rfl)
    case explen => cases ht; exact h.of_ends (explenOp_ends s) (by rw [explenOp_frame]; rfl)
    case parse => cases ht; exact h.parse
    case scalset imm16 =>
      cases ht
      exact (State.Inv.setScalv (s := { s with scalar := imm16 }) { h with } true).finish
    case scalld idx => cases ht; exact h.scalld idx.toNat
    case scalclr => cases ht; exact (h.setScalv false).finish
    case resolve => cases ht; exact h.resolve.finish
    case scale16 off cls => cases ht; exact h.scaleTo _ _ cls
    case scale32 off cls => cases ht; exact h.scaleTo _ _ cls
    case p3fix => cases ht; exact h.p3fix
    case decode => cases ht; exact h.decodeBlock
    case filter => cases ht; exact h.filterBlock
    all_goals cases hi

/-! The host's actions. -/

theorem State.Inv.clearFaults (h : s.Inv) (w : Word) : (clearFaults w s).Inv :=
  { h with
    faultsReserved := by
      show (s.faults &&& ~~~w.setWidth 16) &&& 0xFE00#16 = 0#16
      rw [BitVec.and_assoc, BitVec.and_comm (~~~_), ← BitVec.and_assoc, h.faultsReserved, BitVec.zero_and] }

/-- A store touches the invariant's registers only at `FAULTS`, whose bits it clears, and at `CFG`, whose reserved bits
it drops. -/
theorem State.Inv.writeLoc (h : s.Inv) (w : Word) (l : Loc) : (writeLoc w s l).Inv := by
  cases l
  case faults => exact h.clearFaults w
  case cfg =>
    refine { h with cfgReserved := ?_ }
    show (w &&& 0x0000000F#32) &&& 0xFFFFFFF0#32 = 0#32
    rw [BitVec.and_assoc, show 0x0000000F#32 &&& 0xFFFFFFF0#32 = 0#32 by decide, BitVec.and_zero]
  all_goals exact { h with }

theorem State.Inv.writeWord (h : s.Inv) (o : Nat) (w : Word) : (writeWord s o w).Inv := by
  unfold Machine.writeWord
  split
  · exact h.writeLoc w _
  · exact h

theorem State.Inv.advance (h : s.Inv) : (advance s).Inv :=
  { h with }

theorem State.Inv.setCmd (h : s.Inv) (w : Word) : { s with cmd := w }.Inv :=
  { h with }

theorem State.Inv.setRdata (h : s.Inv) (w : Word) : { s with rdata := w }.Inv :=
  { h with }

end

/-- Settles O19: each way a step can end (`step_cases`) keeps the invariant. -/
theorem stepKeepsTheInvariant : Obligations.StepKeepsTheInvariant := by
  unfold Obligations.StepKeepsTheInvariant
  intro s t h hstep
  have ha := h.advance
  obtain rfl | ⟨o, rfl⟩ | ⟨o, w, -, rfl⟩ | ⟨w, i, -, hexec⟩ | ⟨w, e, -, rfl⟩ | ⟨b, bytes, i, -, hexec⟩ |
    ⟨b, bytes, e, -, hload⟩ := step_cases s t hstep
  · exact h
  · exact ha.setRdata _
  · exact ha.writeWord o w
  · exact (ha.setCmd w).exec hexec
  · exact (ha.setCmd w).raise .illegalCommand
  · exact ha.exec hexec
  · exact ha.loadFrame hload

end Sys2Proof.Machine

/-! ### What an instruction leaves unchanged (10_state.md R48) -/

namespace Sys2Proof.Machine

/-- What stands in the state beside the block's registers: the host's list and index, its last read, the parameters. -/
def State.hostSide (s : State) := (s.prog, s.pc, s.rdata, s.params)

/-- From `s` to `t` nothing changes but `ERR`, `FAULTS`, the words of `W` and the bits `bits` of `STATUS`. -/
structure ChangesOnly (W : Loc → Bool) (bits : List Nat) (s t : State) : Prop where
  words : ∀ l, l ≠ .err → l ≠ .faults → l ≠ .status → W l = false → readLoc t l = readLoc s l
  status : ∀ j, j ∉ bits → t.status.getLsbD j = s.status.getLsbD j := by intros; rfl
  hostSide : t.hostSide = s.hostSide := by rfl

section
variable {s t : State} {W : Loc → Bool} {bits : List Nat}

/-! `STATUS` after the operations that write it: the bits outside the operation's list. -/

theorem getLsbD_setBit_of_notMem (v : BitVec 32) {k : Nat} (hk : k ∈ bits) (b : Bool) {j : Nat} (hj : j ∉ bits) :
    (setBit v k b).getLsbD j = v.getLsbD j :=
  getLsbD_setBit_ne v (ne_of_mem_of_not_mem hk hj) b

theorem scalld_status (s : State) (idx : Nat) {j : Nat} (hj : j ∉ [1]) :
    (scalld idx s).status.getLsbD j = s.status.getLsbD j := by
  unfold scalld
  repeat' split
  · rfl
  · rfl
  · exact getLsbD_setBit_of_notMem s.status (by decide) true hj

theorem scaleTo_status (s : State) (check : Option ErrCode) (raw : Nat) (c : MClass) {j : Nat} (hj : j ∉ [3]) :
    (scaleTo check raw c s).status.getLsbD j = s.status.getLsbD j := by
  cases check <;> exact getLsbD_setBit_of_notMem s.status (by decide) _ hj

theorem resolve_status_of_notMem (s : State) {j : Nat} (h2 : 2 ∈ bits) (h5 : 5 ∈ bits) (hj : j ∉ bits) :
    (resolve s).status.getLsbD j = s.status.getLsbD j := by
  rw [resolve_status, resolveScalar_status, getLsbD_setBit_of_notMem _ h2 _ hj, getLsbD_setBit_of_notMem _ h5 _ hj]

theorem decodeBlock_status (s : State) {j : Nat} (hj : j ∉ [2, 4, 5]) :
    (decodeBlock s).status.getLsbD j = s.status.getLsbD j := by
  cases h : decodeCheck s with
  | some e =>
    rw [decodeBlock_error s e h]
    exact getLsbD_setBit_of_notMem s.status (by decide) false hj
  | none =>
    rw [decodeBlock_pass s h, ← resolve_status_of_notMem s (by decide) (by decide) hj]
    exact getLsbD_setBit_of_notMem (resolve s).status (by decide) true hj

/-! The operations, each by its frame equation: a word is one the operation lists, or its register is the one before. -/

theorem changesOnly_result (e : BitVec 8) (f : BitVec 16) : ChangesOnly W bits s { s with err := e, faults := f } where
  words l herr hfaults _ _ := by
    cases l
    case err | faults => contradiction
    all_goals rfl

theorem changesOnly_crc (hcrc : W .crc = true) (c : Half) (e : BitVec 8) (f : BitVec 16) :
    ChangesOnly W bits s { s with crc := c, err := e, faults := f } where
  words l herr hfaults _ hW := by
    cases l
    case err | faults => contradiction
    case crc => exact absurd hW (ne_false_of_eq_true hcrc)
    all_goals rfl

theorem crcapp_changesOnly : ChangesOnly (mayWrite .crcapp) (statusBits .crcapp) s (crcapp s) := by
  rw [crcapp_frame]
  refine { words := fun l herr hfaults _ hW => ?_ }
  cases l
  case err | faults => contradiction
  case crc | txlen | txbuf => cases hW
  all_goals rfl

theorem addrconv_changesOnly : ChangesOnly (mayWrite .addrconv) (statusBits .addrconv) s (addrconv s) := by
  rw [addrconv_frame]
  refine { words := fun l herr hfaults _ hW => ?_ }
  cases l
  case err | faults => contradiction
  case waddr => cases hW
  all_goals rfl

theorem build_changesOnly : ChangesOnly (mayWrite .build) (statusBits .build) s (build s) := by
  rw [build_frame]
  refine { words := fun l herr hfaults _ hW => ?_ }
  cases l
  case err | faults => contradiction
  case waddr | txlen | crc | txbuf => cases hW
  all_goals rfl

theorem explenOp_changesOnly : ChangesOnly (mayWrite .explen) (statusBits .explen) s (explenOp s) := by
  rw [explenOp_frame]
  refine { words := fun l herr hfaults _ hW => ?_ }
  cases l
  case err | faults => contradiction
  case explen => cases hW
  all_goals rfl

theorem parse_changesOnly : ChangesOnly (mayWrite .parse) (statusBits .parse) s (parse s) := by
  rw [parse_frame]
  refine { words := fun l herr hfaults _ hW => ?_ }
  cases l
  case err | faults => contradiction
  case crc | rkind | rflags | rdev | rfunc | rcode | rmsg | rbc | rwaddr | rwval | regn | reg => cases hW
  all_goals rfl

theorem changesOnly_scalar (hscalar : W .scalar = true) (v : Half) (st : BitVec 32)
    (hst : ∀ j, j ∉ bits → st.getLsbD j = s.status.getLsbD j) (e : BitVec 8) (f : BitVec 16) :
    ChangesOnly W bits s { s with scalar := v, status := st, err := e, faults := f } where
  words l herr hfaults hstatus hW := by
    cases l
    case err | faults | status => contradiction
    case scalar => exact absurd hW (ne_false_of_eq_true hscalar)
    all_goals rfl
  status := hst

theorem scalclr_changesOnly : ChangesOnly (mayWrite .scalclr) (statusBits .scalclr) s (finish (setScalv false s)) where
  words l herr _ hstatus _ := by
    cases l
    case err | status => contradiction
    all_goals rfl
  status _ hj := getLsbD_setBit_of_notMem s.status (by decide) false hj

theorem resolve_changesOnly : ChangesOnly (mayWrite .resolve) (statusBits .resolve) s (finish (resolve s)) := by
  have hst : ∀ j, j ∉ statusBits .resolve → (resolve s).status.getLsbD j = s.status.getLsbD j :=
    fun _ hj => resolve_status_of_notMem s (by decide) (by decide) hj
  rw [resolve_frame] at hst ⊢
  refine { words := fun l herr hfaults hstatus hW => ?_, status := hst }
  cases l
  case err | faults | status => contradiction
  case scalused | msrc | midx | msetM | msetE => cases hW
  all_goals rfl

theorem changesOnly_acc (hlo : W .accLo = true) (hhi : W .accHi = true) (hE : W .accE = true) (a : Dec) (st : BitVec 32)
    (hst : ∀ j, j ∉ bits → st.getLsbD j = s.status.getLsbD j) (e : BitVec 8) (f : BitVec 16) :
    ChangesOnly W bits s { s with acc := a, status := st, err := e, faults := f } where
  words l herr hfaults hstatus hW := by
    cases l
    case err | faults | status => contradiction
    case accLo => exact absurd hW (ne_false_of_eq_true hlo)
    case accHi => exact absurd hW (ne_false_of_eq_true hhi)
    case accE => exact absurd hW (ne_false_of_eq_true hE)
    all_goals rfl
  status := hst

theorem p3fix_acc_m (s : State) : (p3fix s).acc.m = s.acc.m := by
  unfold p3fix
  repeat' split
  all_goals rfl

/-- `P3FIX` writes the exponent of `ACC` and leaves its mantissa (43_scaling.md R192). -/
theorem p3fix_changesOnly : ChangesOnly (mayWrite .p3fix) (statusBits .p3fix) s (p3fix s) := by
  have hm := p3fix_acc_m s
  rw [p3fix_frame] at hm ⊢
  refine { words := fun l herr hfaults _ hW => ?_ }
  cases l
  case err | faults => contradiction
  case accE => cases hW
  case accLo => exact congrArg (BitVec.extractLsb' 0 32) hm
  case accHi => exact congrArg (BitVec.extractLsb' 32 32) hm
  all_goals rfl

theorem decodeBlock_changesOnly : ChangesOnly (mayWrite .decode) (statusBits .decode) s (decodeBlock s) := by
  have hst : ∀ j, j ∉ statusBits .decode → (decodeBlock s).status.getLsbD j = s.status.getLsbD j :=
    fun _ hj => decodeBlock_status s hj
  rw [decodeBlock_frame] at hst ⊢
  refine { words := fun l herr hfaults hstatus hW => ?_, status := hst }
  cases l
  case err | faults | status => contradiction
  case scalused | msrc | midx | msetM | msetE | outn | outLo | outHi | outE | outFl => cases hW
  all_goals rfl

theorem filterBlock_changesOnly : ChangesOnly (mayWrite .filter) (statusBits .filter) s (filterBlock s) := by
  rw [filterBlock_frame]
  refine { words := fun l herr hfaults _ hW => ?_ }
  cases l
  case err | faults => contradiction
  case outLo | outHi | outE | outFl => cases hW
  all_goals rfl

/-- `SRST` leaves `CMD` and the arrays other than `MAN` and `MSET` (45_system.md R236). -/
theorem softReset_changesOnly : ChangesOnly (mayWrite .srst) (statusBits .srst) s (finish (softReset s)) where
  words l _ _ _ hW := by
    cases l
    case cmd | val | txbuf | rxbuf | reg | fd | outLo | outHi | outE | outFl => rfl
    all_goals cases hW
  status j hj := by
    have hge : 32 ≤ j := by simpa [statusBits] using hj
    rw [BitVec.getLsbD_of_ge _ _ hge, BitVec.getLsbD_of_ge _ _ hge]

theorem setTxFrame_changesOnly (bytes : List Byte) : ChangesOnly mayWrite.isTx bits s (setTxFrame bytes s) where
  words l _ _ _ hW := by
    cases l
    case txlen | txbuf => cases hW
    all_goals rfl

theorem setRxFrame_changesOnly (bytes : List Byte) : ChangesOnly mayWrite.isRx bits s (setRxFrame bytes s) where
  words l _ _ _ hW := by
    cases l
    case rxlen | rxbuf => cases hW
    all_goals rfl

/-- Every instruction keeps what it does not list. -/
theorem exec_changesOnly {i : Instr} (h : exec i s = .next t) : ChangesOnly (mayWrite i) (statusBits i) s t := by
  cases i
  case nop => cases h; exact changesOnly_result _ _
  case srst => cases h; exact softReset_changesOnly
  case crcinit | crcbyte => cases h; exact changesOnly_crc rfl _ _ _
  case crcbuf sel len => cases h; rw [crcbuf_frame]; exact changesOnly_crc rfl _ _ _
  case crcapp => cases h; exact crcapp_changesOnly
  case crcvfy sel => cases h; rw [crcvfy_frame]; exact changesOnly_crc rfl _ _ _
  case addrconv => cases h; exact addrconv_changesOnly
  case build => cases h; exact build_changesOnly
  case explen => cases h; exact explenOp_changesOnly
  case parse => cases h; exact parse_changesOnly
  case scalset imm16 =>
    cases h
    have hbit : 1 ∈ statusBits (.scalset imm16) := List.mem_singleton_self 1
    exact changesOnly_scalar rfl _ _ (fun _ hj => getLsbD_setBit_of_notMem s.status hbit true hj) _ _
  case scalld idx =>
    cases h
    have hst : ∀ j, j ∉ statusBits (.scalld idx) → _ := fun _ hj => scalld_status s idx.toNat hj
    rw [scalld_frame] at hst ⊢
    exact changesOnly_scalar rfl _ _ hst _ _
  case scalclr => cases h; exact scalclr_changesOnly
  case resolve => cases h; exact resolve_changesOnly
  case scale16 off cls | scale32 off cls =>
    cases h
    rw [scaleTo_frame]
    exact changesOnly_acc rfl rfl rfl _ _ (fun _ hj => scaleTo_status s _ _ cls hj) _ _
  case p3fix => cases h; exact p3fix_changesOnly
  case decode => cases h; exact decodeBlock_changesOnly
  case filter => cases h; exact filterBlock_changesOnly
  case reqReadHolding | reqReadInput | reqWriteSingle | reqWriteMultiple =>
    rw [exec_of_frame s _ .tx _ rfl] at h
    obtain ⟨-, rfl⟩ := loadFrame_tx_next s _ t h
    exact setTxFrame_changesOnly _
  case rspReadHolding | rspReadInput | rspWriteSingle | rspWriteMultiple | rspError =>
    rw [exec_of_frame s _ .rx _ rfl] at h
    obtain ⟨-, rfl⟩ := loadFrame_rx_next s _ t h
    exact setRxFrame_changesOnly _

end

/-- Settles O20: each instruction's frame (`exec_changesOnly`), read word by word of the register space. -/
theorem execWritesOnlyItsListedRegisters : Obligations.ExecWritesOnlyItsListedRegisters := by
  unfold Obligations.ExecWritesOnlyItsListedRegisters
  intro i s t h
  obtain ⟨hwords, hstatus, hhost⟩ := exec_changesOnly h
  simp only [State.hostSide, Prod.mk.injEq] at hhost
  refine ⟨fun o l ho herr hfaults hst hW => ?_, hstatus, hhost⟩
  rw [readWord_of t o l ho, readWord_of s o l ho]
  exact hwords l herr hfaults hst hW

end Sys2Proof.Machine

/-! ### `FAULTS` is sticky (10_state.md R27) -/

namespace Sys2Proof.Machine

section
variable {s t : State}

theorem getLsbD_setBit_true {w : Nat} {v : BitVec w} (i : Nat) {j : Nat} (hj : v.getLsbD j = true) :
    (setBit v i true).getLsbD j = true := by
  rw [getLsbD_setBit]
  split
  · rfl
  · exact hj

/-- An operation that ends as R255 says clears no bit. -/
theorem Ends.faults_sticky {es : List ErrCode} (h : Ends es s t) {j : Nat} (hj : s.faults.getLsbD j = true) :
    t.faults.getLsbD j = true := by
  obtain ⟨-, hfaults⟩ | ⟨e, -, -, hfaults⟩ := h
  · exact hfaults ▸ hj
  · exact hfaults ▸ getLsbD_setBit_true (faultBit e) hj

/-- `RESOLVE` may set `FAULTS.WARNDEF` and clears no bit. -/
theorem resolve_faults_sticky {j : Nat} (hj : s.faults.getLsbD j = true) : (resolve s).faults.getLsbD j = true := by
  rw [resolve_faults]
  split
  · exact hj
  · exact getLsbD_setBit_true 8 hj

theorem decodeBlock_faults_sticky {j : Nat} (hj : s.faults.getLsbD j = true) :
    (decodeBlock s).faults.getLsbD j = true := by
  obtain ⟨e, -, -, hfaults⟩ | ⟨-, hfaults⟩ := decodeBlock_ends s
  · exact hfaults ▸ getLsbD_setBit_true (faultBit e) hj
  · exact hfaults ▸ resolve_faults_sticky hj

/-- A load line leaves `FAULTS` alone. -/
theorem loadFrame_faults {b : BufSel} {bytes : List Byte} (h : loadFrame b bytes s = .next t) : t.faults = s.faults := by
  cases b with
  | tx =>
    obtain ⟨-, rfl⟩ := loadFrame_tx_next s bytes t h
    rfl
  | rx =>
    obtain ⟨-, rfl⟩ := loadFrame_rx_next s bytes t h
    rfl

end

/-- Settles O21: an operation ends with `FAULTS` as it was or with one more bit set. -/
theorem faultBitsAreSticky : Obligations.FaultBitsAreSticky := by
  unfold Obligations.FaultBitsAreSticky
  intro i s t j hsrst h hj
  cases hi : encode i with
  | frame b bytes =>
    rw [exec_of_frame s i b bytes hi] at h
    exact loadFrame_faults h ▸ hj
  | command w =>
    cases i
    case srst => contradiction
    case nop | crcinit | crcbyte | scalset | scalclr => cases h; exact hj
    case crcbuf sel len => cases h; exact (crcbuf_ends s sel len.toNat).faults_sticky hj
    case crcapp => cases h; exact (crcapp_ends s).faults_sticky hj
    case crcvfy sel => cases h; exact (crcvfy_ends s sel).faults_sticky hj
    case addrconv => cases h; exact (addrconv_ends s).faults_sticky hj
    case build => cases h; exact (build_ends s).faults_sticky hj
    case explen => cases h; exact (explenOp_ends s).faults_sticky hj
    case parse => cases h; exact (parse_ends s).faults_sticky hj
    case scalld idx => cases h; exact (scalld_ends s idx.toNat).faults_sticky hj
    case resolve => cases h; exact resolve_faults_sticky hj
    case scale16 off cls | scale32 off cls => cases h; exact (scaleTo_ends s _ _ cls).faults_sticky hj
    case p3fix => cases h; exact (p3fix_ends s).faults_sticky hj
    case decode => cases h; exact decodeBlock_faults_sticky hj
    case filter => cases h; exact (filterBlock_ends s).faults_sticky hj
    all_goals cases hi

end Sys2Proof.Machine

/-! ### What a host write stores (10_state.md R21 to R46, 20_memory.md R63) -/

namespace Sys2Proof.Machine

section
variable (s : State) (w : Word)

/-- Reading back the word just written. -/
theorem readWord_writeWord (o : Nat) (l : Loc) (h : locate o = some l) :
    readWord (writeWord s o w) o = readLoc (writeLoc w s l) l := by
  rw [writeWord_of s o l w h, readWord_of _ o l h]

theorem writeWord_unmapped (o : Nat) (h : locate o = none) : writeWord s o w = s := by
  simp only [writeWord, h]

theorem readWord_unmapped (o : Nat) (h : locate o = none) : readWord s o = 0#32 := by
  simp only [readWord, h]
  rfl

/-- A register of `k` bits stores the low `k` bits of the word. -/
theorem setWidth_setWidth_eq_and (k : Nat) (m : Word) (hm : ∀ j, j < 32 → m.getLsbD j = decide (j < k)) :
    (w.setWidth k).setWidth 32 = w &&& m := by
  apply BitVec.eq_of_getLsbD_eq
  intro j hj
  rw [BitVec.getLsbD_and, hm j hj, BitVec.getLsbD_setWidth, BitVec.getLsbD_setWidth, decide_eq_true hj, Bool.true_and,
    Bool.and_comm]

theorem setWidth_4_32 : (w.setWidth 4).setWidth 32 = w &&& 0x0000000F#32 :=
  setWidth_setWidth_eq_and w 4 _ (by decide)

theorem setWidth_8_32 : (w.setWidth 8).setWidth 32 = w &&& 0x000000FF#32 :=
  setWidth_setWidth_eq_and w 8 _ (by decide)

theorem setWidth_16_32 : (w.setWidth 16).setWidth 32 = w &&& 0x0000FFFF#32 :=
  setWidth_setWidth_eq_and w 16 _ (by decide)

/-! The array registers: an element reads back as it was stored. -/

theorem elem_put_self {α : Type} {n : Nat} (d : α) (v : Vector α n) (i : Nat) (x : α) (h : i < n) :
    elem d (put v i x) i = x := by
  rw [elem_put, if_pos ⟨rfl, h⟩]

theorem readLoc_writeLoc_manM (c : Nat) (h : c < 5) : readLoc (writeLoc w s (.manM c)) (.manM c) = w := by
  simp [readLoc, writeLoc, manAt, elem_put_self, h]

theorem readLoc_writeLoc_manE (c : Nat) (h : c < 5) :
    readLoc (writeLoc w s (.manE c)) (.manE c) = w &&& 0x0000000F#32 := by
  rw [← setWidth_4_32]
  simp [readLoc, writeLoc, manAt, elem_put_self, h]

theorem readLoc_writeLoc_val (i : Nat) (h : i < 123) : readLoc (writeLoc w s (.val i)) (.val i) = w :=
  elem_put_self 0 s.val i w h

theorem readLoc_writeLoc_txbuf (i : Nat) (h : i < 256) :
    readLoc (writeLoc w s (.txbuf i)) (.txbuf i) = w &&& 0x000000FF#32 := by
  rw [← setWidth_8_32]
  exact congrArg (BitVec.setWidth 32) (elem_put_self 0 s.txbuf i _ h)

theorem readLoc_writeLoc_rxbuf (i : Nat) (h : i < 256) :
    readLoc (writeLoc w s (.rxbuf i)) (.rxbuf i) = w &&& 0x000000FF#32 := by
  rw [← setWidth_8_32]
  exact congrArg (BitVec.setWidth 32) (elem_put_self 0 s.rxbuf i _ h)

theorem readLoc_writeLoc_reg (i : Nat) (h : i < 126) :
    readLoc (writeLoc w s (.reg i)) (.reg i) = w &&& 0x0000FFFF#32 := by
  rw [← setWidth_16_32]
  exact congrArg (BitVec.setWidth 32) (elem_put_self 0 s.reg i _ h)

theorem readLoc_writeLoc_fd (i : Nat) (h : i < 64) : readLoc (writeLoc w s (.fd i)) (.fd i) = w :=
  elem_put_self 0 s.fd i w h

/-! The read-only arrays and the unmapped offsets (R61). -/

theorem locate_mset_range (o : Nat) (hlt : o < 0x04A) (hge : 0x040 ≤ o) :
    locate o = some (pairLoc (o - 0x040) .msetM .msetE) := by
  revert o
  decide +kernel

theorem locate_out_range (o : Nat) (hlt : o < 0x500) (hge : 0x400 ≤ o) : locate o = some (outLoc (o - 0x400)) := by
  revert o
  decide +kernel

theorem writeLoc_mset (k : Nat) : writeLoc w s (pairLoc k .msetM .msetE) = s := by
  unfold pairLoc
  split <;> rfl

theorem writeLoc_out (k : Nat) : writeLoc w s (outLoc k) = s := by
  unfold outLoc
  repeat' split
  all_goals rfl

theorem locate_unmapped (o : Nat) (hlt : o < 0x400) (h : o = 0x007 ∨ 0x01B ≤ o ∧ o < 0x020 ∨ 0x029 ≤ o ∧ o < 0x030 ∨
    0x03A ≤ o ∧ o < 0x040 ∨ 0x04A ≤ o ∧ o < 0x080 ∨ 0x0FB ≤ o ∧ o < 0x100 ∨ 0x37E ≤ o ∧ o < 0x380 ∨
    0x3C0 ≤ o ∧ o < 0x400) : locate o = none := by
  revert o
  decide +kernel

/-- The nine registers of 32 bits a host writes whole. -/
theorem writeWord_whole (o : Nat)
    (h : o ∈ [0x008, 0x009, 0x00A, 0x00B, 0x00C, 0x00E, 0x010, 0x018, 0x027]) : readWord (writeWord s o w) o = w := by
  fin_cases h <;> rfl

/-- The read-only scalar registers. -/
theorem writeWord_readOnly (o : Nat) (h : o ∈ [0x001, 0x002, 0x006, 0x00D, 0x00F, 0x011, 0x012, 0x013, 0x014, 0x015,
    0x016, 0x017, 0x019, 0x01A, 0x020, 0x021, 0x022, 0x023, 0x024, 0x025, 0x026, 0x028]) : writeWord s o w = s := by
  fin_cases h <;> rfl

end

/-- Settles O12: each register by its place in the map (`locate_*`) and its stored part. -/
theorem hostWriteStoresItsPart : Obligations.HostWriteStoresItsPart := by
  unfold Obligations.HostWriteStoresItsPart
  intro s w
  refine ⟨writeWord_whole s w, rfl, setWidth_16_32 w, fun c hc => ?_, fun c hc => ?_, fun i hi => ?_, fun i hi => ?_,
    fun i hi => ?_, fun i hi => ?_, fun i hi => ?_, writeWord_readOnly s w, fun o ho => ?_, fun o ho => ?_⟩
  · rw [readWord_writeWord s w _ _ (locate_man c hc).1, readLoc_writeLoc_manM s w c hc]
  · rw [readWord_writeWord s w _ _ (locate_man c hc).2, readLoc_writeLoc_manE s w c hc]
  · rw [readWord_writeWord s w _ _ (locate_val i hi), readLoc_writeLoc_val s w i hi]
  · rw [readWord_writeWord s w _ _ (locate_txbuf i hi), readLoc_writeLoc_txbuf s w i hi]
  · rw [readWord_writeWord s w _ _ (locate_rxbuf i hi), readLoc_writeLoc_rxbuf s w i hi]
  · rw [readWord_writeWord s w _ _ (locate_reg i hi), readLoc_writeLoc_reg s w i hi]
  · rw [readWord_writeWord s w _ _ (locate_fd i hi), readLoc_writeLoc_fd s w i hi]
  · obtain ⟨hge, hlt⟩ | ⟨hge, hlt⟩ := ho
    · rw [writeWord_of s o _ w (locate_mset_range o hlt hge), writeLoc_mset]
    · rw [writeWord_of s o _ w (locate_out_range o hlt hge), writeLoc_out]
  · have hnone := locate_unmapped o (by omega) ho
    exact ⟨writeWord_unmapped s w o hnone, readWord_unmapped s o hnone⟩

/-- Settles O13: the write is `clearFaults`. -/
theorem faultsAreWriteOneToClear : Obligations.FaultsAreWriteOneToClear := by
  unfold Obligations.FaultsAreWriteOneToClear
  intro s w
  have hclear : writeWord s 0x003 w = clearFaults w s := rfl
  refine ⟨act_write s 0x003 w (by omega) (by omega), fun j hj => ?_, rfl⟩
  rw [hclear, clearFaults_faults, BitVec.getLsbD_and, BitVec.getLsbD_not, BitVec.getLsbD_setWidth]
  simp [hj]

/-! ### One step, and reset -/

/-- Settles O6: the step's next action, a write to `CMD` by `act_command` and a load line by its decoded frame. -/
theorem stepRunsTheDecodedInstruction : Obligations.StepRunsTheDecodedInstruction := by
  unfold Obligations.StepRunsTheDecodedInstruction
  refine ⟨fun s w i hp hi => ?_, fun s b bytes i hp hi => ?_, step_action, act_command, step_idle⟩
  · have hcmd : act (.write s.params.base 4 w) (advance s) = writeCommand w (advance s) := act_command (advance s) w
    rw [step_action s _ hp, hcmd, writeCommand, advance_params, hi]
    rfl
  · rw [step_action s _ hp, act, hostLoad, hi]
    rfl

theorem elem_replicate {α : Type} {n : Nat} (d x : α) (i : Nat) (h : i < n) : elem d (Vector.replicate n x) i = x := by
  rw [elem_getElem d _ i h, Vector.getElem_replicate]

/-- Settles O16: the scalar registers as `State.reset` sets them, `MAN` and `MSET` element by element. -/
theorem resetLeavesTheStatedValues : Obligations.ResetLeavesTheStatedValues := by
  have harrays : ∀ c, c < 5 → manAt State.reset c = ⟨1, 0⟩ ∧ msetAt State.reset c = ⟨0, 0⟩ :=
    fun c hc => ⟨elem_replicate _ _ c hc, elem_replicate _ _ c hc⟩
  unfold Obligations.ResetLeavesTheStatedValues
  intro s
  iterate 33 refine ⟨rfl, ?_⟩
  exact harrays

end Sys2Proof.Machine

/-! ### Host accesses (20_memory.md R61 to R67) -/

namespace Sys2Proof.Machine

/-! Which accesses have a step: every command word is decoded to a command of the block or is illegal, and both answer a
next state. -/

theorem checked_eq_ok {reserved w : Word} {r : Except Reject Instr} {i : Instr} (h : checked reserved w r = .ok i) :
    r = .ok i := by
  unfold checked at h
  split at h
  · exact h
  · cases h

theorem formatL_isCommand {w : Word} {i : Instr} (h : formatL w = .ok i) : isCommand i = true := by
  unfold formatL at h
  split at h <;> cases h
  rfl

/-- A word of format F is read as the instruction of its row. -/
theorem formatF_eq_ok {w : Word} {mk : BitVec 7 → MClass → Instr} {i : Instr} (h : formatF w mk = .ok i) :
    ∃ off cls, i = mk off cls := by
  unfold formatF at h
  split at h <;> cases h
  exact ⟨_, _, rfl⟩

/-- No command word is read as a frame. -/
theorem decodeCommand_isCommand {hf : Bool} {w : Word} {i : Instr} (h : decodeCommand hf w = .ok i) :
    isCommand i = true := by
  unfold decodeCommand at h
  split at h
  -- `CRCBUF`, the two of format F, `FILTER`, no opcode; the other rows have no check but R81 step 2
  case h_5 => exact formatL_isCommand (checked_eq_ok h)
  case h_16 | h_17 =>
    obtain ⟨off, cls, rfl⟩ := formatF_eq_ok (checked_eq_ok h)
    rfl
  case h_20 =>
    split at h
    · cases checked_eq_ok h
      rfl
    · cases h
  case h_21 => cases h
  all_goals
    cases checked_eq_ok h
    rfl

/-- An operation of the block answers a next state from every state. -/
theorem exec_next_of_isCommand {i : Instr} (h : isCommand i = true) (s : State) : ∃ t, exec i s = .next t := by
  cases i
  case reqReadHolding | reqReadInput | reqWriteSingle | reqWriteMultiple => cases h
  case rspReadHolding | rspReadInput | rspWriteSingle | rspWriteMultiple | rspError => cases h
  all_goals exact ⟨_, rfl⟩

theorem writeCommand_next (w : Word) (s : State) : ∃ t, writeCommand w s = .next t := by
  unfold writeCommand
  split
  · exact exec_next_of_isCommand (decodeCommand_isCommand ‹_›) _
  · exact ⟨_, rfl⟩

/-- Settles O9: outside, no word offset is named (`accessOffset_none`); inside, the access is of a word `o`, and a write
to `CMD` has a successor as every command word has. -/
theorem hostAccessStuckExactlyOutside : Obligations.HostAccessStuckExactlyOutside := by
  unfold Obligations.HostAccessStuckExactlyOutside
  intro s addr n w
  refine ⟨fun hout => ?_, ?_⟩
  · simp only [act, hostWrite, hostRead, (accessOffset_none s addr n).mpr hout, and_self]
  · rintro ⟨rfl, hbase, hlt, haligned⟩
    obtain ⟨o, ho, rfl⟩ : ∃ o, o < 0x500 ∧ addr = s.params.base + 4 * o :=
      ⟨(addr - s.params.base) / 4, by omega, by omega⟩
    refine ⟨?_, _, act_read s o ho⟩
    by_cases h0 : o = 0
    · subst h0
      obtain ⟨t, ht⟩ := writeCommand_next w s
      exact ⟨t, (act_command s w).trans ht⟩
    · exact ⟨_, act_write s o w ho h0⟩

/-- Settles O14: a location has one offset, `offsetOf`. -/
theorem registerMapIsOneToOne : Obligations.RegisterMapIsOneToOne := by
  unfold Obligations.RegisterMapIsOneToOne
  intro o o' l h h'
  exact (offsetOf_locate o l h).symm.trans (offsetOf_locate o' l h')

/-! A store changes the register at its offset alone. -/

theorem elem_put_ne {α : Type} {n : Nat} (d : α) (v : Vector α n) {i j : Nat} (x : α) (h : i ≠ j) :
    elem d (put v i x) j = elem d v j := by
  rw [elem_put, if_neg fun hij => h hij.1]

/-- Storing to an element a value that agrees with it on the part `f` changes that part of no element. -/
theorem elem_put_part {α β : Type} {n : Nat} (f : α → β) (d : α) (v : Vector α n) (i j : Nat) (x : α)
    (h : f x = f (elem d v i)) : f (elem d (put v i x) j) = f (elem d v j) := by
  by_cases hij : i = j
  · subst hij
    rw [elem_put]
    split
    · exact h
    · rfl
  · rw [elem_put_ne d v x hij]

section
variable (s : State) (w : Word)

/-- Every register but the one stored to reads as before: of the same array at another index, and the other half of a
multiplier. -/
theorem readLoc_writeLoc_ne {l l' : Loc} (h : l ≠ l') : readLoc (writeLoc w s l) l' = readLoc s l' := by
  cases l
  case manM c =>
    cases l'
    case manM j => exact congrArg Mult.m (elem_put_ne _ s.man _ (mt (congrArg Loc.manM) h))
    case manE j => exact congrArg (BitVec.setWidth 32) (elem_put_part Mult.e _ s.man c j _ rfl)
    all_goals rfl
  case manE c =>
    cases l'
    case manM j => exact elem_put_part Mult.m _ s.man c j _ rfl
    case manE j => exact congrArg (fun x => x.e.setWidth 32) (elem_put_ne _ s.man _ (mt (congrArg Loc.manE) h))
    all_goals rfl
  case val i =>
    cases l'
    case val j => exact elem_put_ne _ s.val _ (mt (congrArg Loc.val) h)
    all_goals rfl
  case txbuf i =>
    cases l'
    case txbuf j => exact congrArg (BitVec.setWidth 32) (elem_put_ne _ s.txbuf _ (mt (congrArg Loc.txbuf) h))
    all_goals rfl
  case rxbuf i =>
    cases l'
    case rxbuf j => exact congrArg (BitVec.setWidth 32) (elem_put_ne _ s.rxbuf _ (mt (congrArg Loc.rxbuf) h))
    all_goals rfl
  case reg i =>
    cases l'
    case reg j => exact congrArg (BitVec.setWidth 32) (elem_put_ne _ s.reg _ (mt (congrArg Loc.reg) h))
    all_goals rfl
  case fd i =>
    cases l'
    case fd j => exact elem_put_ne _ s.fd _ (mt (congrArg Loc.fd) h)
    all_goals rfl
  case cmd | faults | cfg | defscalar | devaddr | func | regaddr | count | nval | txlen | rxlen | regn | nfd =>
    cases l'
    any_goals contradiction
    all_goals rfl
  all_goals rfl

theorem readWord_writeWord_ne {o o' : Nat} (h : o' ≠ o) : readWord (writeWord s o w) o' = readWord s o' := by
  cases hl : locate o with
  | none => rw [writeWord_unmapped s w o hl]
  | some l =>
    cases hl' : locate o' with
    | none => rw [readWord_unmapped _ o' hl', readWord_unmapped s o' hl']
    | some l' =>
      have hne : l ≠ l' := fun hll' => h (registerMapIsOneToOne o' o l (hll' ▸ hl') hl)
      rw [readWord_of _ o' l' hl', readWord_of s o' l' hl', writeWord_of s o l w hl, readLoc_writeLoc_ne s w hne]

theorem writeWord_context (o : Nat) :
    (writeWord s o w).prog = s.prog ∧ (writeWord s o w).pc = s.pc ∧ (writeWord s o w).rdata = s.rdata ∧
      (writeWord s o w).params = s.params := by
  cases hl : locate o with
  | none => rw [writeWord_unmapped s w o hl]; exact ⟨rfl, rfl, rfl, rfl⟩
  | some l => rw [writeWord_of s o l w hl]; exact writeLoc_context s w l

end

/-- Settles O11: two offsets hold two registers (O14), and a store changes one. -/
theorem hostWriteTouchesOneWord : Obligations.HostWriteTouchesOneWord := by
  unfold Obligations.HostWriteTouchesOneWord
  intro s o w h0 ho
  exact ⟨act_write s o w ho h0, fun _ h => readWord_writeWord_ne s w h, writeWord_context s w o⟩

/-! What a read returns: the registers with a fixed offset as the map evaluates, an array's element at its place in the
map. -/

section
variable (s : State)

theorem readWord_man (c : Nat) (h : c < 5) :
    readWord s (0x030 + 2 * c) = s.man[c].m ∧ readWord s (0x031 + 2 * c) = s.man[c].e.setWidth 32 := by
  rw [readWord_of s _ _ (locate_man c h).1, readWord_of s _ _ (locate_man c h).2, ← elem_getElem ⟨0, 0⟩ s.man c h]
  exact ⟨rfl, rfl⟩

theorem readWord_mset (c : Nat) (h : c < 5) :
    readWord s (0x040 + 2 * c) = s.mset[c].m ∧ readWord s (0x041 + 2 * c) = s.mset[c].e.setWidth 32 := by
  rw [readWord_of s _ _ (locate_mset c h).1, readWord_of s _ _ (locate_mset c h).2,
    ← elem_getElem ⟨0, 0⟩ s.mset c h]
  exact ⟨rfl, rfl⟩

theorem readWord_val (i : Nat) (h : i < 123) : readWord s (0x080 + i) = s.val[i] := by
  rw [readWord_of s _ _ (locate_val i h)]
  exact elem_getElem 0 s.val i h

theorem readWord_txbuf (i : Nat) (h : i < 256) : readWord s (0x100 + i) = s.txbuf[i].setWidth 32 := by
  rw [readWord_of s _ _ (locate_txbuf i h)]
  exact congrArg (BitVec.setWidth 32) (elem_getElem 0 s.txbuf i h)

theorem readWord_rxbuf (i : Nat) (h : i < 256) : readWord s (0x200 + i) = s.rxbuf[i].setWidth 32 := by
  rw [readWord_of s _ _ (locate_rxbuf i h)]
  exact congrArg (BitVec.setWidth 32) (elem_getElem 0 s.rxbuf i h)

theorem readWord_reg (i : Nat) (h : i < 126) : readWord s (0x300 + i) = s.reg[i].setWidth 32 := by
  rw [readWord_of s _ _ (locate_reg i h)]
  exact congrArg (BitVec.setWidth 32) (elem_getElem 0 s.reg i h)

theorem readWord_fd (i : Nat) (h : i < 64) : readWord s (0x380 + i) = s.fd[i] := by
  rw [readWord_of s _ _ (locate_fd i h)]
  exact elem_getElem 0 s.fd i h

theorem readWord_out (i : Nat) (h : i < 64) :
    (readWord s (0x400 + 4 * i)).toNat = s.out[i].m.toNat % 2 ^ 32 ∧
      (readWord s (0x401 + 4 * i)).toNat = s.out[i].m.toNat / 2 ^ 32 ∧
      readWord s (0x402 + 4 * i) = s.out[i].e.setWidth 32 ∧ readWord s (0x403 + 4 * i) = s.out[i].fl.setWidth 32 := by
  obtain ⟨hlo, hhi, he, hfl⟩ := locate_out i h
  rw [readWord_of s _ _ hlo, readWord_of s _ _ hhi, readWord_of s _ _ he, readWord_of s _ _ hfl,
    ← elem_getElem ⟨0, 0, 0⟩ s.out i h]
  exact ⟨mantissa_low _, mantissa_high _, rfl, rfl⟩

end

/-- Settles O10: the access is `act_read`; the words are the fixed registers, the halves of `ACC.M`, and the arrays'
elements (`readWord_*`). -/
theorem hostReadReturnsTheWord : Obligations.HostReadReturnsTheWord := by
  unfold Obligations.HostReadReturnsTheWord
  intro s
  refine ⟨act_read s, ?_⟩
  iterate 30 refine ⟨rfl, ?_⟩
  exact ⟨mantissa_low s.acc.m, mantissa_high s.acc.m, rfl, rfl, rfl, readWord_man s, readWord_mset s, readWord_val s,
    readWord_txbuf s, readWord_rxbuf s, readWord_reg s, readWord_fd s, readWord_out s⟩

end Sys2Proof.Machine

/-! ### Encoding: decoder and encoder (30_encoding.md R80 to R99) -/

namespace Sys2Proof

open Sys2Proof.Machine

section
variable {w : Word} {i : Instr} {hf : Bool}

/-! Reading a command word: what each step of R81 asks of it. -/

theorem checked_eq_ok_iff {reserved : Word} {r : Except Reject Instr} :
    checked reserved w r = .ok i ↔ w &&& reserved = 0 ∧ r = .ok i := by
  unfold checked
  split
  next h => simp only [h, true_and]
  next h => simp only [h, false_and, reduceCtorEq]

theorem formatL_eq_ok_iff :
    formatL w = .ok i ↔ (w.extractLsb' 0 9).toNat ≤ 256 ∧ .crcbuf (selOf w) (w.extractLsb' 0 9) = i := by
  unfold formatL
  split
  next h => simp only [h, true_and, Except.ok.injEq]
  next h => simp only [h, false_and, reduceCtorEq]

theorem formatF_eq_ok_iff {mk : BitVec 7 → MClass → Instr} :
    formatF w mk = .ok i ↔ ∃ c, classOf (w.extractLsb' 8 3).toNat = some c ∧ mk (w.extractLsb' 0 7) c = i := by
  unfold formatF
  split
  next c h => simp only [h, Option.some.injEq, exists_eq_left', Except.ok.injEq]
  next h => simp only [h, reduceCtorEq, false_and, exists_false]

theorem num_of_classOf {n : Nat} {c : MClass} (h : classOf n = some c) : c.num = n := by
  unfold classOf at h
  split at h <;> cases h <;> rfl

/-! Writing one: a word is its opcode, its reserved bits at 0, and its fields (R82). -/

theorem word_eq_iff {v w : Word} :
    v = w ↔ v.extractLsb' 24 8 = w.extractLsb' 24 8 ∧ v.extractLsb' 0 24 = w.extractLsb' 0 24 := by
  constructor
  · rintro rfl
    exact ⟨rfl, rfl⟩
  · rintro ⟨hopc, harg⟩
    rw [← BitVec.extractLsb'_append_extractLsb' (w := 8) (len := 24) (x := v), hopc, harg,
      BitVec.extractLsb'_append_extractLsb' (w := 8) (len := 24)]

theorem commandWord_eq {o : BitVec 8} {a m : BitVec 24} (hw : w &&& (0#8 ++ m) = 0) (ha : a &&& m = 0)
    (hfields : ∀ k < 24, m.getLsbD k = false → a.getLsbD k = w.getLsbD k)
    (ho : (w.extractLsb' 24 8).toNat = o.toNat) : commandWord o a = w := by
  refine word_eq_iff.mpr ⟨?_, ?_⟩
  · rw [opc_commandWord]
    exact BitVec.eq_of_toNat_eq ho.symm
  · rw [arg_commandWord o a 0 24 (by omega), BitVec.extractLsb'_eq_self]
    refine BitVec.eq_of_getLsbD_eq fun k hk => ?_
    rw [BitVec.getLsbD_extractLsb', Nat.zero_add, decide_eq_true hk, Bool.true_and]
    cases hm : m.getLsbD k with
    | false => exact hfields k hk hm
    | true =>
      have hak := congrArg (BitVec.getLsbD · k) ha
      have hwk := congrArg (BitVec.getLsbD · k) hw
      simp only [BitVec.getLsbD_and, BitVec.getLsbD_append, hk, hm] at hak hwk
      simpa using hak.trans hwk.symm

theorem commandWord_formatZ {o : BitVec 8} (hw : w &&& 0x00FFFFFF#32 = 0)
    (ho : (w.extractLsb' 24 8).toNat = o.toNat) : commandWord o 0 = w :=
  have hfield : ∀ k < 24, (0xFFFFFF#24).getLsbD k = true := by decide
  commandWord_eq (m := 0xFFFFFF#24) hw (by decide) (fun k hk hmk => absurd (hfield k hk) (ne_true_of_eq_false hmk)) ho

/-- An immediate in the low `n` bits of `ARG`, the others reserved (formats B, H and X). -/
theorem commandWord_immediate {o : BitVec 8} (n : Nat) (m : BitVec 24) (hn : n ≤ 24)
    (hm : ∀ k < 24, m.getLsbD k = decide (n ≤ k)) (hw : w &&& (0#8 ++ m) = 0)
    (ho : (w.extractLsb' 24 8).toNat = o.toNat) : commandWord o ((w.extractLsb' 0 n).setWidth 24) = w := by
  refine commandWord_eq hw (setWidth_and n _ m fun k hk => ?_) (fun k hk hmk => ?_) ho
  · rw [hm k (by omega), decide_eq_false (by omega)]
  · have hkn : k < n := by simpa [hm k hk] using hmk
    simp [hk, hkn]

theorem decide_selOf_eq_rx (w : Word) : decide (selOf w = .rx) = w.getLsbD 16 := by
  unfold selOf
  cases w.getLsbD 16 <;> rfl

theorem commandWord_formatL {o : BitVec 8} (hw : w &&& 0x00FEFE00#32 = 0)
    (ho : (w.extractLsb' 24 8).toNat = o.toNat) :
    commandWord o (BitVec.ofNat 24 ((selOf w).num * 2 ^ 16 + (w.extractLsb' 0 9).toNat)) = w := by
  refine commandWord_eq (m := 0xFEFE00#24) hw (argL_reserved _ _) (fun k hk hmk => ?_) ho
  have hfield : ∀ k < 24, (0xFEFE00#24).getLsbD k = false → k < 9 ∨ k = 16 := by decide
  obtain hlen | rfl := hfield k hk hmk
  · have hbit := congrArg (BitVec.getLsbD · k) (argL_len (selOf w) (w.extractLsb' 0 9))
    simp only [BitVec.getLsbD_extractLsb', hlen, Nat.zero_add, decide_true, Bool.true_and] at hbit
    exact hbit
  · exact (argL_sel (selOf w) (w.extractLsb' 0 9)).trans (decide_selOf_eq_rx w)

theorem commandWord_formatS {o : BitVec 8} (hw : w &&& 0x00FEFFFF#32 = 0)
    (ho : (w.extractLsb' 24 8).toNat = o.toNat) : commandWord o (BitVec.ofNat 24 ((selOf w).num * 2 ^ 16)) = w := by
  refine commandWord_eq (m := 0xFEFFFF#24) hw ?_ (fun k hk hmk => ?_) ho
  · cases selOf w <;> decide
  · have hfield : ∀ k < 24, (0xFEFFFF#24).getLsbD k = false → k = 16 := by decide
    obtain rfl := hfield k hk hmk
    have hsel := argL_sel (selOf w) 0#9
    rw [BitVec.toNat_zero, Nat.add_zero] at hsel
    exact hsel.trans (decide_selOf_eq_rx w)

theorem commandWord_formatF {o : BitVec 8} {c : MClass} (hc : classOf (w.extractLsb' 8 3).toNat = some c)
    (hw : w &&& 0x00FFF880#32 = 0) (ho : (w.extractLsb' 24 8).toNat = o.toNat) :
    commandWord o (argF (w.extractLsb' 0 7) c) = w := by
  refine commandWord_eq (m := 0xFFF880#24) hw (argF_reserved _ _) (fun k hk hmk => ?_) ho
  have hfield : ∀ k < 24, (0xFFF880#24).getLsbD k = false → k < 7 ∨ 8 ≤ k ∧ k < 11 := by decide
  obtain hoff | ⟨hge, hlt⟩ := hfield k hk hmk
  · simpa [hoff] using congrArg (BitVec.getLsbD · k) (argF_off (w.extractLsb' 0 7) c)
  · have hcls : (argF (w.extractLsb' 0 7) c).extractLsb' 8 3 = w.extractLsb' 8 3 :=
      BitVec.eq_of_toNat_eq ((argF_class _ c).trans (num_of_classOf hc))
    have hj : 8 + (k - 8) = k := by omega
    have h3 : k - 8 < 3 := by omega
    simpa [hj, h3] using congrArg (BitVec.getLsbD · (k - 8)) hcls

/-- A row without operands (format Z). -/
theorem formatZ_sound {j : Instr} {o : BitVec 8} (h : checked 0x00FFFFFF w (.ok j) = .ok i)
    (henc : encode j = .command (commandWord o 0)) (hwf : j.wf hf = true)
    (ho : (w.extractLsb' 24 8).toNat = o.toNat) : encode i = .command w ∧ i.wf hf = true := by
  obtain ⟨hw, hj⟩ := checked_eq_ok_iff.mp h
  cases hj
  exact ⟨henc.trans (congrArg _ (commandWord_formatZ hw ho)), hwf⟩

/-- A row with an offset and a class (format F). -/
theorem formatF_sound {mk : BitVec 7 → MClass → Instr} {o : BitVec 8}
    (h : checked 0x00FFF880 w (formatF w mk) = .ok i)
    (henc : ∀ off c, encode (mk off c) = .command (commandWord o (argF off c)))
    (hwf : ∀ off c, (mk off c).wf hf = true) (ho : (w.extractLsb' 24 8).toNat = o.toNat) :
    encode i = .command w ∧ i.wf hf = true := by
  obtain ⟨hw, hi⟩ := checked_eq_ok_iff.mp h
  obtain ⟨c, hc, rfl⟩ := formatF_eq_ok_iff.mp hi
  exact ⟨(henc _ c).trans (congrArg _ (commandWord_formatF hc hw ho)), hwf _ c⟩

/-- A word the decoder accepts is the encoding of what it reads, row by row of R89. -/
theorem decodeCommand_sound (h : decodeCommand hf w = .ok i) : encode i = .command w ∧ i.wf hf = true := by
  unfold decodeCommand at h
  split at h
  -- with operands: `CRCBYTE`, `CRCBUF`, `CRCVFY`, `SCALSET`, `SCALLD`, `SCALE16`, `SCALE32`; then `FILTER`, no opcode
  case h_4 ho =>
    obtain ⟨hw, hi⟩ := checked_eq_ok_iff.mp h
    cases hi
    exact ⟨congrArg _ (commandWord_immediate (o := 0x11) 8 0xFFFF00 (by omega) (by decide) hw ho), rfl⟩
  case h_5 ho =>
    obtain ⟨hw, hi⟩ := checked_eq_ok_iff.mp h
    obtain ⟨hlen, rfl⟩ := formatL_eq_ok_iff.mp hi
    exact ⟨congrArg _ (commandWord_formatL (o := 0x12) hw ho), decide_eq_true hlen⟩
  case h_7 ho =>
    obtain ⟨hw, hi⟩ := checked_eq_ok_iff.mp h
    cases hi
    exact ⟨congrArg _ (commandWord_formatS (o := 0x14) hw ho), rfl⟩
  case h_12 ho =>
    obtain ⟨hw, hi⟩ := checked_eq_ok_iff.mp h
    cases hi
    exact ⟨congrArg _ (commandWord_immediate (o := 0x40) 16 0xFF0000 (by omega) (by decide) hw ho), rfl⟩
  case h_13 ho =>
    obtain ⟨hw, hi⟩ := checked_eq_ok_iff.mp h
    cases hi
    exact ⟨congrArg _ (commandWord_immediate (o := 0x41) 7 0xFFFF80 (by omega) (by decide) hw ho), rfl⟩
  case h_16 ho => exact formatF_sound h (fun _ _ => rfl) (fun _ _ => rfl) ho
  case h_17 ho => exact formatF_sound h (fun _ _ => rfl) (fun _ _ => rfl) ho
  case h_20 ho =>
    split at h
    next hfilter => exact formatZ_sound h rfl hfilter ho
    next => cases h
  case h_21 => cases h
  all_goals exact formatZ_sound h rfl rfl ‹_›

/-! Frames: what each layout asks of the bytes (R91 to R98). -/

theorem splitTail_eq_some_iff {tail : List Byte} {vs : List Half} {c : Half} :
    splitTail tail = some (vs, c) ↔ tail = vs.flatMap be16 ++ le16 c :=
  ⟨splitTail_sound tail vs c, fun h => h ▸ splitTail_encode vs c⟩

theorem twoFields_eq_ok_iff {tail : List Byte} {mk : Half → Half → Half → Instr} :
    twoFields tail mk = .ok i ↔ ∃ a b c, tail = be16 a ++ be16 b ++ le16 c ∧ mk a b c = i := by
  constructor
  · intro h
    unfold twoFields at h
    split at h
    next a b c hs =>
      cases h
      exact ⟨a, b, c, splitTail_eq_some_iff.mp hs, rfl⟩
    next => cases h
  · rintro ⟨a, b, c, rfl, rfl⟩
    have hs : splitTail (be16 a ++ be16 b ++ le16 c) = some ([a, b], c) := splitTail_encode [a, b] c
    simp only [twoFields, hs]

theorem byte_eq_ofNat {b : Byte} {n : Nat} (h : b.toNat = n) : b = BitVec.ofNat 8 n := by
  rw [← h, BitVec.ofNat_toNat, BitVec.setWidth_eq]

theorem decodeReadReply_eq_ok_iff {mk : List Half → Half → Instr} {bytes : List Byte} :
    decodeReadReply mk bytes = .ok i ↔ ∃ vs c, 5 + 2 * vs.length ≤ 256 ∧
      bytes = BitVec.ofNat 8 (2 * vs.length) :: (vs.flatMap be16 ++ le16 c) ∧ mk vs c = i := by
  constructor
  · intro h
    unfold decodeReadReply at h
    split at h
    next bc tail =>
      split at h
      next vs c hs =>
        split at h
        next hlen =>
          obtain ⟨hfits, hbc⟩ := hlen
          cases h
          exact ⟨vs, c, hfits, by rw [byte_eq_ofNat hbc, splitTail_eq_some_iff.mp hs], rfl⟩
        next => cases h
      next => cases h
    next => cases h
  · rintro ⟨vs, c, hfits, rfl, rfl⟩
    have hbc : (BitVec.ofNat 8 (2 * vs.length)).toNat = 2 * vs.length := by
      rw [BitVec.toNat_ofNat]
      omega
    simp only [decodeReadReply, splitTail_encode, hfits, hbc, and_self, if_true]

theorem decodeWriteMultiple_eq_ok_iff {dev : Byte} {bytes : List Byte} :
    decodeWriteMultiple dev bytes = .ok i ↔ ∃ a vs c, 9 + 2 * vs.length ≤ 256 ∧
      bytes = be16 a ++ be16 (BitVec.ofNat 16 vs.length) ++
        BitVec.ofNat 8 (2 * vs.length) :: (vs.flatMap be16 ++ le16 c) ∧ .reqWriteMultiple dev a vs c = i := by
  constructor
  · intro h
    unfold decodeWriteMultiple at h
    split at h
    next wh wl ch cl bc tail =>
      split at h
      next vs c hs =>
        split at h
        next hlen =>
          obtain ⟨hfits, hcount, hbc⟩ := hlen
          cases h
          refine ⟨_, vs, c, hfits, ?_, rfl⟩
          have hcount : frombe16 ch cl = BitVec.ofNat 16 vs.length :=
            BitVec.eq_of_toNat_eq (by rw [hcount, BitVec.toNat_ofNat]; omega)
          rw [byte_eq_ofNat hbc, splitTail_eq_some_iff.mp hs, ← hcount]
          simp only [be16, hi8_frombe16, lo8_frombe16, List.cons_append, List.nil_append]
        next => cases h
      next => cases h
    next => cases h
  · rintro ⟨a, vs, c, hfits, rfl, rfl⟩
    have hbc : (BitVec.ofNat 8 (2 * vs.length)).toNat = 2 * vs.length := by
      rw [BitVec.toNat_ofNat]
      omega
    have hcount : (BitVec.ofNat 16 vs.length).toNat = vs.length := by
      rw [BitVec.toNat_ofNat]
      omega
    simp only [be16, List.cons_append, List.nil_append, decodeWriteMultiple, splitTail_encode, frombe16_hi_lo, hfits,
      hbc, hcount, and_self, if_true]

theorem decodeErrorReply_eq_ok_iff {dev fn : Byte} {bytes : List Byte} :
    decodeErrorReply dev fn bytes = .ok i ↔ ∃ code c, bytes = code :: le16 c ∧ .rspError dev fn code c = i := by
  constructor
  · intro h
    unfold decodeErrorReply at h
    split at h
    next code l hb =>
      cases h
      exact ⟨code, _, by rw [le16, lo8_frombe16, hi8_frombe16], rfl⟩
    next => cases h
  · rintro ⟨code, c, rfl, rfl⟩
    simp only [decodeErrorReply, le16, frombe16_hi_lo]

theorem decodeRequest_sound {bytes : List Byte} (h : decodeRequest bytes = .ok i) :
    encode i = .frame .tx bytes ∧ i.wf hf = true := by
  unfold decodeRequest at h
  split at h
  next dev fn rest =>
    split at h
    next hfn =>
      obtain rfl : fn = 0x03 := BitVec.eq_of_toNat_eq hfn
      obtain ⟨a, b, c, rfl, rfl⟩ := twoFields_eq_ok_iff.mp h
      exact ⟨rfl, rfl⟩
    next hfn =>
      obtain rfl : fn = 0x04 := BitVec.eq_of_toNat_eq hfn
      obtain ⟨a, b, c, rfl, rfl⟩ := twoFields_eq_ok_iff.mp h
      exact ⟨rfl, rfl⟩
    next hfn =>
      obtain rfl : fn = 0x06 := BitVec.eq_of_toNat_eq hfn
      obtain ⟨a, b, c, rfl, rfl⟩ := twoFields_eq_ok_iff.mp h
      exact ⟨rfl, rfl⟩
    next hfn =>
      obtain rfl : fn = 0x10 := BitVec.eq_of_toNat_eq hfn
      obtain ⟨a, vs, c, hfits, rfl, rfl⟩ := decodeWriteMultiple_eq_ok_iff.mp h
      exact ⟨rfl, decide_eq_true hfits⟩
    next => cases h
  next => cases h

theorem decodeReply_sound {bytes : List Byte} (h : decodeReply bytes = .ok i) :
    encode i = .frame .rx bytes ∧ i.wf hf = true := by
  unfold decodeReply at h
  split at h
  next dev fn rest =>
    split at h
    next hbit =>
      obtain ⟨code, c, rfl, rfl⟩ := decodeErrorReply_eq_ok_iff.mp h
      exact ⟨rfl, hbit⟩
    next =>
      split at h
      next hfn =>
        obtain rfl : fn = 0x03 := BitVec.eq_of_toNat_eq hfn
        obtain ⟨vs, c, hfits, rfl, rfl⟩ := decodeReadReply_eq_ok_iff.mp h
        exact ⟨rfl, decide_eq_true hfits⟩
      next hfn =>
        obtain rfl : fn = 0x04 := BitVec.eq_of_toNat_eq hfn
        obtain ⟨vs, c, hfits, rfl, rfl⟩ := decodeReadReply_eq_ok_iff.mp h
        exact ⟨rfl, decide_eq_true hfits⟩
      next hfn =>
        obtain rfl : fn = 0x06 := BitVec.eq_of_toNat_eq hfn
        obtain ⟨a, b, c, rfl, rfl⟩ := twoFields_eq_ok_iff.mp h
        exact ⟨rfl, rfl⟩
      next hfn =>
        obtain rfl : fn = 0x10 := BitVec.eq_of_toNat_eq hfn
        obtain ⟨a, b, c, rfl, rfl⟩ := twoFields_eq_ok_iff.mp h
        exact ⟨rfl, rfl⟩
      next => cases h
  next => cases h

theorem decodeFrame_sound {b : BufSel} {bytes : List Byte} (h : decodeFrame b bytes = .ok i) :
    encode i = .frame b bytes ∧ i.wf hf = true := by
  cases b with
  | tx => exact decodeRequest_sound h
  | rx => exact decodeReply_sound h

/-! The other direction: what an encoder writes is read back, format by format. -/

theorem checked_immediate (o : BitVec 8) {n : Nat} (m : BitVec 24) (x : BitVec n) (mk : BitVec n → Instr)
    (hn : n ≤ 24) (hm : ∀ k < n, m.getLsbD k = false) :
    checked (0#8 ++ m) (commandWord o (x.setWidth 24))
      (.ok (mk ((commandWord o (x.setWidth 24)).extractLsb' 0 n))) = .ok (mk x) := by
  refine checked_eq_ok_iff.mpr ⟨reserved_commandWord o _ m (setWidth_and n x m hm), ?_⟩
  rw [arg_commandWord o _ 0 n (by omega), extract_setWidth n hn]

theorem selOf_commandWord (o : BitVec 8) (sel : BufSel) (len : BitVec 9) :
    selOf (commandWord o (BitVec.ofNat 24 (sel.num * 2 ^ 16 + len.toNat))) = sel := by
  rw [selOf, bit_commandWord o _ 16 (by omega), argL_sel]
  cases sel <;> rfl

theorem checked_formatL (o : BitVec 8) (sel : BufSel) (len : BitVec 9) (hlen : len.toNat ≤ 256) :
    checked 0x00FEFE00 (commandWord o (BitVec.ofNat 24 (sel.num * 2 ^ 16 + len.toNat)))
      (formatL (commandWord o (BitVec.ofNat 24 (sel.num * 2 ^ 16 + len.toNat)))) = .ok (.crcbuf sel len) := by
  refine checked_eq_ok_iff.mpr ⟨reserved_commandWord o _ 0xFEFE00 (argL_reserved sel len), formatL_eq_ok_iff.mpr ?_⟩
  rw [arg_commandWord o _ 0 9 (by omega), argL_len, selOf_commandWord]
  exact ⟨hlen, rfl⟩

theorem checked_formatF (o : BitVec 8) (mk : BitVec 7 → MClass → Instr) (off : BitVec 7) (c : MClass) :
    checked 0x00FFF880 (commandWord o (argF off c)) (formatF (commandWord o (argF off c)) mk) = .ok (mk off c) := by
  refine checked_eq_ok_iff.mpr
    ⟨reserved_commandWord o _ 0xFFF880 (argF_reserved off c), formatF_eq_ok_iff.mpr ⟨c, ?_⟩⟩
  rw [arg_commandWord o _ 8 3 (by omega), arg_commandWord o _ 0 7 (by omega), argF_class, argF_off]
  exact ⟨classOf_num c, rfl⟩

theorem decodeCommand_complete (henc : encode i = .command w) (hwf : i.wf hf = true) : decodeCommand hf w = .ok i := by
  cases i
  case crcbyte imm8 =>
    cases henc
    simp only [decodeCommand, opc_commandWord]
    exact checked_immediate 0x11 0xFFFF00 imm8 .crcbyte (by omega) (by decide)
  case crcbuf sel len =>
    cases henc
    simp only [decodeCommand, opc_commandWord]
    exact checked_formatL 0x12 sel len (of_decide_eq_true hwf)
  case crcvfy sel => cases henc; cases sel <;> rfl
  case scalset imm16 =>
    cases henc
    simp only [decodeCommand, opc_commandWord]
    exact checked_immediate 0x40 0xFF0000 imm16 .scalset (by omega) (by decide)
  case scalld idx =>
    cases henc
    simp only [decodeCommand, opc_commandWord]
    exact checked_immediate 0x41 0xFFFF80 idx .scalld (by omega) (by decide)
  case scale16 off c =>
    cases henc
    simp only [decodeCommand, opc_commandWord]
    exact checked_formatF 0x44 .scale16 off c
  case scale32 off c =>
    cases henc
    simp only [decodeCommand, opc_commandWord]
    exact checked_formatF 0x45 .scale32 off c
  case filter =>
    cases henc
    obtain rfl : hf = true := hwf
    rfl
  case nop | srst | crcinit | crcapp | addrconv | build | explen | parse | scalclr | resolve | p3fix | decode =>
    cases henc
    rfl
  all_goals cases henc

theorem decodeReply_error (dev fn : Byte) (rest : List Byte) (h : fn.getLsbD 7 = true) :
    decodeReply (dev :: fn :: rest) = decodeErrorReply dev fn rest := by
  simp only [decodeReply, h, if_true]

theorem decodeFrame_complete {b : BufSel} {bytes : List Byte} (henc : encode i = .frame b bytes)
    (hwf : i.wf hf = true) : decodeFrame b bytes = .ok i := by
  cases i
  case reqReadHolding dev a n c => cases henc; exact twoFields_eq_ok_iff.mpr ⟨a, n, c, rfl, rfl⟩
  case reqReadInput dev a n c => cases henc; exact twoFields_eq_ok_iff.mpr ⟨a, n, c, rfl, rfl⟩
  case reqWriteSingle dev a v c => cases henc; exact twoFields_eq_ok_iff.mpr ⟨a, v, c, rfl, rfl⟩
  case reqWriteMultiple dev a vs c =>
    cases henc
    exact decodeWriteMultiple_eq_ok_iff.mpr ⟨a, vs, c, of_decide_eq_true hwf, rfl, rfl⟩
  case rspReadHolding dev rs c =>
    cases henc
    exact decodeReadReply_eq_ok_iff.mpr ⟨rs, c, of_decide_eq_true hwf, rfl, rfl⟩
  case rspReadInput dev rs c =>
    cases henc
    exact decodeReadReply_eq_ok_iff.mpr ⟨rs, c, of_decide_eq_true hwf, rfl, rfl⟩
  case rspWriteSingle dev a v c => cases henc; exact twoFields_eq_ok_iff.mpr ⟨a, v, c, rfl, rfl⟩
  case rspWriteMultiple dev a n c => cases henc; exact twoFields_eq_ok_iff.mpr ⟨a, n, c, rfl, rfl⟩
  case rspError dev fn code c =>
    cases henc
    exact (decodeReply_error dev fn _ hwf).trans (decodeErrorReply_eq_ok_iff.mpr ⟨code, c, rfl, rfl⟩)
  all_goals cases henc

end

/-- Settles O1: the image is a word or a frame, and each reader answers its encoder's instruction. -/
theorem decodeOfEncodeIsTheInstruction : Obligations.DecodeOfEncodeIsTheInstruction := by
  unfold Obligations.DecodeOfEncodeIsTheInstruction
  intro hf i hwf
  cases h : encode i with
  | command w => exact decodeCommand_complete h hwf
  | frame b bytes => exact decodeFrame_complete h hwf

/-- Settles O2: soundness of the two readers. -/
theorem encodeOfDecodeIsTheImage : Obligations.EncodeOfDecodeIsTheImage := by
  unfold Obligations.EncodeOfDecodeIsTheImage
  intro hf im i h
  cases im with
  | command w => exact decodeCommand_sound h
  | frame b bytes => exact decodeFrame_sound h

/-- Settles O3: each word and each frame evaluates to its instruction. -/
theorem wordsOfTheSpecDecode : Obligations.WordsOfTheSpecDecode := by
  unfold Obligations.WordsOfTheSpecDecode
  decide

end Sys2Proof

/-! ### The opcode table (30_encoding.md R89, R104) -/

namespace Sys2Proof

open Sys2Proof.Machine

/-- The opcode of a row. -/
def Row.opcode (r : Row) : Nat := (r.pattern.extractLsb' 24 8).toNat

/-- The reserved bits of a row: what its mask asks of `ARG`. -/
def Row.reserved (r : Row) : Word := r.mask &&& 0x00FFFFFF

section
variable {w : Word} {r : Row}

/-- A row asks for its opcode and for 0 in its reserved bits (R81 steps 1 and 2). -/
theorem row_selects_iff (hr : r ∈ opcodeRows) :
    w &&& r.mask = r.pattern ↔ (w.extractLsb' 24 8).toNat = r.opcode ∧ w &&& r.reserved = 0 := by
  have hrows : ∀ r ∈ opcodeRows,
      r.mask.extractLsb' 24 8 = BitVec.allOnes 8 ∧ r.pattern.extractLsb' 0 24 = 0#24 := by decide
  obtain ⟨hmask, hpattern⟩ := hrows r hr
  have hopc : (0x00FFFFFF#32).extractLsb' 24 8 = 0#8 ∧ (0#32).extractLsb' 24 8 = 0#8 := by decide
  have harg : (0x00FFFFFF#32).extractLsb' 0 24 = BitVec.allOnes 24 ∧ (0#32).extractLsb' 0 24 = 0#24 := by decide
  simp only [word_eq_iff, Row.opcode, Row.reserved, BitVec.extractLsb'_and, hmask, hpattern, hopc, harg,
    BitVec.and_allOnes, BitVec.and_zero, true_and, BitVec.toNat_inj, BitVec.ofNat_eq_ofNat]

theorem row_unique : ∀ r ∈ opcodeRows, ∀ r' ∈ opcodeRows, r.opcode = r'.opcode → r = r' := by
  decide

theorem exists_classOf_iff : (n : Nat) → ((∃ c, classOf n = some c) ↔ n ≤ 5)
  | 0 | 1 | 2 | 3 | 4 | 5 => by simp [classOf]
  | n + 6 => by simp [classOf]

/-- The opcodes of the table are those the decoder has an arm for. -/
theorem exists_row_of_decodeCommand {i : Instr} (h : decodeCommand true w = .ok i) :
    ∃ r ∈ opcodeRows, r.opcode = (w.extractLsb' 24 8).toNat := by
  suffices h : (w.extractLsb' 24 8).toNat ∈ opcodeRows.map Row.opcode from List.mem_map.mp h
  unfold decodeCommand at h
  split at h
  case h_21 => cases h
  all_goals
    rename_i ho
    rw [ho]
    decide

/-- An arm whose fields are legal where `legal` says so. -/
theorem exists_checked_ok {reserved : Word} {r : Except Reject Instr} {legal : Bool}
    (h : (∃ i, r = .ok i) ↔ legal = true) :
    (∃ i, checked reserved w r = .ok i) ↔ w &&& reserved = 0 ∧ legal = true := by
  simp only [checked_eq_ok_iff, exists_and_left, h]

theorem exists_formatL_ok : (∃ i, formatL w = .ok i) ↔ decide ((w.extractLsb' 0 9).toNat ≤ 256) = true := by
  simp only [formatL_eq_ok_iff, exists_and_left, exists_eq', and_true, decide_eq_true_eq]

theorem exists_formatF_ok {mk : BitVec 7 → MClass → Instr} :
    (∃ i, formatF w mk = .ok i) ↔ decide ((w.extractLsb' 8 3).toNat ≤ 5) = true := by
  simp only [formatF_eq_ok_iff, decide_eq_true_eq, ← exists_classOf_iff]
  rw [exists_comm]
  simp only [exists_and_left, exists_eq', and_true]

/-- The arm of a row's opcode accepts exactly what the row asks. -/
theorem exists_decodeCommand_ok_iff (hr : r ∈ opcodeRows) (ho : (w.extractLsb' 24 8).toNat = r.opcode) :
    (∃ i, decodeCommand true w = .ok i) ↔ w &&& r.reserved = 0 ∧ fieldsLegal r w = true := by
  unfold decodeCommand
  rw [ho]
  fin_cases hr
  -- `CRCBUF` has a length to check, `SCALE16` and `SCALE32` a class; the other rows are legal whatever their fields
  iterate 4 exact exists_checked_ok (iff_of_true ⟨_, rfl⟩ rfl)
  · exact exists_checked_ok exists_formatL_ok
  iterate 10 exact exists_checked_ok (iff_of_true ⟨_, rfl⟩ rfl)
  · exact exists_checked_ok exists_formatF_ok
  · exact exists_checked_ok exists_formatF_ok
  all_goals exact exists_checked_ok (iff_of_true ⟨_, rfl⟩ rfl)

end

/-- Settles O4: the opcode names the only row a word can select, and the row's arm checks what the row asks. -/
theorem decoderAgreesWithTheOpcodeTable : Obligations.DecoderAgreesWithTheOpcodeTable := by
  unfold Obligations.DecoderAgreesWithTheOpcodeTable
  refine ⟨fun w => ⟨fun h => ?_, ?_⟩, fun w r r' hr hr' hsel hsel' => ?_⟩
  · obtain ⟨r, hr, ho⟩ := exists_row_of_decodeCommand h.choose_spec
    obtain ⟨hres, hlegal⟩ := (exists_decodeCommand_ok_iff hr ho.symm).mp h
    exact ⟨r, hr, (row_selects_iff hr).mpr ⟨ho.symm, hres⟩, hlegal⟩
  · rintro ⟨r, hr, hsel, hlegal⟩
    obtain ⟨ho, hres⟩ := (row_selects_iff hr).mp hsel
    exact (exists_decodeCommand_ok_iff hr ho).mpr ⟨hres, hlegal⟩
  · obtain ⟨ho, -⟩ := (row_selects_iff hr).mp hsel
    obtain ⟨ho', -⟩ := (row_selects_iff hr').mp hsel'
    exact row_unique r hr r' hr' (ho.symm.trans ho')

end Sys2Proof

/-! ### Placed words and load lines (10_state.md R22, 30_encoding.md R103, R104) -/

namespace Sys2Proof.Machine

/-- A row of at most 8 bits is a frame row (R104). -/
theorem exists_frame_of_tableFrame (fn : Byte) : ∃ b bytes, tableFrame fn = .frame b bytes := by
  unfold tableFrame
  repeat' split
  all_goals exact ⟨_, _, rfl⟩

theorem decodeImage_of_decodeTableWord {nbits w : Nat} {i : Instr} (h : decodeTableWord nbits w = some i) :
    decodeImage true (tableImage nbits w) = .ok i := by
  unfold decodeTableWord at h
  split at h
  next hi =>
    cases h
    exact hi
  next => cases h

/-- Settles O7: the placed action is the next one, and a decoded action runs its instruction (O6). -/
theorem stepRunsThePlacedTableWord : Obligations.StepRunsThePlacedTableWord := by
  unfold Obligations.StepRunsThePlacedTableWord
  intro s nbits w i hfilter hdecode
  obtain ⟨hcommand, hframe, -⟩ := stepRunsTheDecodedInstruction
  have hnext := withFetchWord_next s nbits w
  have himage := decodeImage_of_decodeTableWord hdecode
  by_cases hbits : nbits ≤ 8
  · obtain ⟨b, bytes, htable⟩ := exists_frame_of_tableFrame (BitVec.ofNat 8 w)
    rw [tableImage, if_pos hbits, htable] at hnext himage
    rw [hframe _ b bytes i hnext himage, if_pos hbits]
    rfl
  · rw [tableImage, if_neg hbits] at hnext himage
    rw [← hfilter] at himage
    rw [hcommand _ (BitVec.ofNat 32 w) i hnext himage, if_neg hbits]
    rfl

/-! A load line and its bus writes (R103). -/

/-- A load line loads its bytes, whether or not they decode to a frame: a frame is the load of its encoding. -/
theorem hostLoad_eq (s : State) (b : BufSel) (bytes : List Byte) : hostLoad b bytes s = loadFrame b bytes s := by
  unfold hostLoad
  split
  next i h =>
    obtain ⟨henc, -⟩ := decodeFrame_sound (hf := true) h
    exact exec_of_frame s i b bytes henc
  next => rfl

/-- The bytes put into a buffer from index `k`. -/
def putBytes (b : BufSel) (k : Nat) (bytes : List Byte) (s : State) : State :=
  match b with
  | .tx => { s with txbuf := putAll s.txbuf k bytes }
  | .rx => { s with rxbuf := putAll s.rxbuf k bytes }

/-- The word offset of a buffer (20_memory.md R61). -/
def bufOffset : BufSel → Nat
  | .tx => 0x100
  | .rx => 0x200

/-- The word offset of a buffer's length register (R61). -/
def lenOffset : BufSel → Nat
  | .tx => 0x00E
  | .rx => 0x010

theorem act_wr_byte (s : State) (b : BufSel) (k : Nat) (x : Byte) (hk : k < 256) :
    act (wr s.params.base (bufOffset b + k) (x.setWidth 32)) s = .next (putBytes b k [x] s) := by
  have hx : (x.setWidth 32).setWidth 8 = x := by simp
  have hb : bufOffset b = 0x100 ∨ bufOffset b = 0x200 := by cases b <;> simp [bufOffset]
  rw [wr, act_write s _ _ (by omega) (by omega)]
  cases b with
  | tx => rw [bufOffset, writeWord_of s _ _ _ (locate_txbuf k hk), writeLoc, hx]; rfl
  | rx => rw [bufOffset, writeWord_of s _ _ _ (locate_rxbuf k hk), writeLoc, hx]; rfl

/-- One bus write per byte, then the rest of the list. -/
theorem actAll_wrBytes (b : BufSel) (rest : List HostAction) (bytes : List Byte) (k : Nat) (s : State)
    (h : k + bytes.length ≤ 256) :
    actAll (wrBytes s.params.base (bufOffset b + k) bytes ++ rest) s = actAll rest (putBytes b k bytes s) := by
  induction bytes generalizing k s with
  | nil => cases b <;> rfl
  | cons x xs ih =>
    rw [List.length_cons] at h
    have hparams : (putBytes b k [x] s).params = s.params := by cases b <;> rfl
    have hput : putBytes b (k + 1) xs (putBytes b k [x] s) = putBytes b k (x :: xs) s := by cases b <;> rfl
    rw [wrBytes, List.cons_append, actAll, act_wr_byte s b k x (by omega)]
    simp only
    rw [Nat.add_assoc, ← hparams, ih (k + 1) _ (by omega), hput]

theorem actAll_load (s : State) (b : BufSel) (bytes : List Byte) (h : bytes.length ≤ 256) :
    actAll (wrBytes s.params.base (bufOffset b) bytes ++
      [wr s.params.base (lenOffset b) (BitVec.ofNat 32 bytes.length)]) s = act (.load b bytes) s := by
  have hparams : (putBytes b 0 bytes s).params = s.params := by cases b <;> rfl
  have hoffset : lenOffset b < 0x500 ∧ lenOffset b ≠ 0 := by cases b <;> decide
  have hlen : act (wr s.params.base (lenOffset b) (BitVec.ofNat 32 bytes.length)) (putBytes b 0 bytes s) =
      loadFrame b bytes s := by
    unfold loadFrame
    rw [if_pos h, ← hparams, wr, act_write _ _ _ hoffset.1 hoffset.2]
    cases b <;> rfl
  have hbytes := actAll_wrBytes b [wr s.params.base (lenOffset b) (BitVec.ofNat 32 bytes.length)] bytes 0 s (by omega)
  rw [Nat.add_zero] at hbytes
  rw [hbytes, actAll, hlen, act, hostLoad_eq]
  cases loadFrame b bytes s <;> rfl

/-- Settles O15: each byte's write, then the length's, end in the load's state. -/
theorem loadLineIsItsBusWrites : Obligations.LoadLineIsItsBusWrites := by
  unfold Obligations.LoadLineIsItsBusWrites
  intro s bytes h
  exact ⟨actAll_load s .rx bytes h, actAll_load s .tx bytes h⟩

end Sys2Proof.Machine

/-! ### Frames loaded and parsed (30_encoding.md R91 to R98, 42_frame_parser.md R159) -/

namespace Sys2Proof.Machine

section
variable {s : State} {i : Instr} {bytes : List Byte}

/-! A frame that fits is put into its buffer; one that does not has no step. -/

theorem exec_request {n : Nat} (henc : encode i = .frame .tx bytes) (hn : bytes.length = n) (h : n ≤ 256) :
    exec i s = .next { s with txbuf := putAll s.txbuf 0 bytes, txlen := BitVec.ofNat 32 n } := by
  subst hn
  rw [exec_of_frame s i .tx bytes henc, loadFrame, if_pos h]
  rfl

theorem exec_reply {n : Nat} (henc : encode i = .frame .rx bytes) (hn : bytes.length = n) (h : n ≤ 256) :
    exec i s = .next { s with rxbuf := putAll s.rxbuf 0 bytes, rxlen := BitVec.ofNat 32 n } := by
  subst hn
  rw [exec_of_frame s i .rx bytes henc, loadFrame, if_pos h]
  rfl

theorem exec_frame_beyond {b : BufSel} (henc : encode i = .frame b bytes) (h : 256 < bytes.length) :
    exec i s = .fault .loadBeyondBuffer := by
  rw [exec_of_frame s i b bytes henc]
  exact if_neg (Nat.not_le_of_lt h)

theorem size_reqWriteMultiple (dev : Byte) (a : Half) (vs : List Half) (c : Half) :
    (encode (.reqWriteMultiple dev a vs c)).size = 9 + 2 * vs.length := by
  simp only [encode, Image.size, List.length_cons, List.length_append, length_flatMap_be16, be16, le16, List.length_nil]
  omega

theorem size_rspReadHolding (dev : Byte) (rs : List Half) (c : Half) :
    (encode (.rspReadHolding dev rs c)).size = 5 + 2 * rs.length := by
  simp only [encode, Image.size, List.length_cons, List.length_append, length_flatMap_be16, le16, List.length_nil]
  omega

theorem size_rspReadInput (dev : Byte) (rs : List Half) (c : Half) :
    (encode (.rspReadInput dev rs c)).size = 5 + 2 * rs.length :=
  size_rspReadHolding dev rs c

end

/-- Settles O56: each request is the load of its bytes, eight or `9 + 2 * n`. -/
theorem requestFramesLoadIntoTxbuf : Obligations.RequestFramesLoadIntoTxbuf := by
  unfold Obligations.RequestFramesLoadIntoTxbuf
  intro s dev w v c vs
  have hsize := size_reqWriteMultiple dev w vs c
  exact ⟨exec_request (n := 8) rfl rfl (by omega), exec_request (n := 8) rfl rfl (by omega),
    exec_request (n := 8) rfl rfl (by omega), fun h => exec_request rfl hsize (by omega),
    fun h => exec_frame_beyond rfl (show 256 < (encode (.reqWriteMultiple dev w vs c)).size by omega)⟩

/-- Settles O57: each reply is the load of its bytes, `5 + 2 * n`, eight or five. -/
theorem replyFramesLoadIntoRxbuf : Obligations.ReplyFramesLoadIntoRxbuf := by
  unfold Obligations.ReplyFramesLoadIntoRxbuf
  intro s dev fn code w v c rs
  have hholding := size_rspReadHolding dev rs c
  have hinput := size_rspReadInput dev rs c
  exact ⟨fun h => exec_reply rfl hholding (by omega), fun h => exec_reply rfl hinput (by omega),
    fun h => ⟨exec_frame_beyond rfl (show 256 < (encode (.rspReadHolding dev rs c)).size by omega),
      exec_frame_beyond rfl (show 256 < (encode (.rspReadInput dev rs c)).size by omega)⟩,
    exec_reply (n := 8) rfl rfl (by omega), exec_reply (n := 8) rfl rfl (by omega),
    exec_reply (n := 5) rfl rfl (by omega)⟩

/-! A read reply in `RXBUF`, as `PARSE` sees it. -/

/-- The bytes of a read reply before its CRC (R95). -/
def readReplyBody (dev fn : Byte) (rs : List Half) : List Byte :=
  dev :: fn :: BitVec.ofNat 8 (2 * rs.length) :: rs.flatMap be16

/-- `s` with a read reply of a good CRC loaded. -/
def loadReadReply (dev fn : Byte) (rs : List Half) (s : State) : State :=
  setRxFrame (withCrc (readReplyBody dev fn rs)) s

theorem firstN_eq_take {α : Type} {n : Nat} (v : Vector α n) {k m : Nat} (h : k ≤ m) :
    firstN v k = (firstN v m).take k := by
  rw [firstN, firstN, List.take_take, Nat.min_eq_left h]

/-- A 16-bit quantity of a big-endian sequence is its two bytes. -/
theorem frombe16_getD_flatMap (rs : List Half) (tail : List Byte) (k : Nat) (h : k < rs.length) :
    frombe16 ((rs.flatMap be16 ++ tail).getD (2 * k) 0) ((rs.flatMap be16 ++ tail).getD (2 * k + 1) 0) = rs[k] := by
  induction rs generalizing k with
  | nil => cases h
  | cons r rs ih =>
    cases k with
    | zero => exact frombe16_hi_lo r
    | succ k => exact ih k (Nat.lt_of_succ_lt_succ h)

/-- Step 7 of a good read reply (R159 to R161). -/
theorem parseRead_pass (s : State) (hlen : 3 + (rxAt s 2).toNat ≤ s.rxlen.toNat) (heven : (rxAt s 2).toNat % 2 = 0)
    (hcount : countMismatch s = false) :
    parseRead s = finish { s with
      rbc := rxAt s 2, reg := putAll s.reg 0 (replyRegs s (rxAt s 2).toNat)
      regn := BitVec.ofNat 32 ((rxAt s 2).toNat / 2), rkind := 1 } := by
  simp only [parseRead, hcount]
  rw [if_neg (by omega), if_neg (by omega)]
  rfl

/-- `PARSE` of a reply of function 3 or 4 that passes every check (R151 to R161). -/
theorem parse_pass (s : State) (hmax : s.rxlen.toNat ≤ 256) (htx : s.txlen.toNat ≤ 256)
    (hok : (parseHeader (parseClear s)).rflags.getLsbD 0 = true) (hfn : (rxAt s 1).toNat = 3 ∨ (rxAt s 1).toNat = 4)
    (hlen : 3 + (rxAt s 2).toNat ≤ s.rxlen.toNat) (heven : (rxAt s 2).toNat % 2 = 0)
    (hcount : countMismatch s = false) :
    parse s = finish { parseHeader (parseClear s) with
      rbc := rxAt s 2, reg := putAll s.reg 0 (replyRegs s (rxAt s 2).toNat)
      regn := BitVec.ofNat 32 ((rxAt s 2).toNat / 2), rkind := 1 } := by
  have hbody : parse s = parseBody (parseHeader (parseClear s)) := by
    obtain ⟨h, -⟩ | ⟨h, -⟩ | ⟨-, -, -, h⟩ := parse_cases s
    · omega
    · omega
    · exact h
  obtain ⟨-, hpassed⟩ := parseBody_cases (parseHeader (parseClear s))
  obtain ⟨-, hread, -⟩ := hpassed fun hbad => ne_true_of_eq_false hbad.2 hok
  rw [hbody, hread hfn]
  exact parseRead_pass (parseHeader (parseClear s)) hlen heven hcount

section
variable (s : State) (dev fn : Byte) (rs : List Half)

theorem length_readReply : (withCrc (readReplyBody dev fn rs)).length = 5 + 2 * rs.length := by
  simp only [length_withCrc, readReplyBody, List.length_cons, length_flatMap_be16]
  omega

variable (hn : rs.length ≤ 125)
include hn

/-! The two reply rows with the CRC of their bytes (R95, R103). -/

theorem exec_rspReadHolding_crc16 :
    exec (.rspReadHolding dev rs (crc16 (readReplyBody dev 0x03 rs))) s = .next (loadReadReply dev 0x03 rs s) :=
  exec_reply (bytes := withCrc (readReplyBody dev 0x03 rs)) rfl rfl (by rw [length_readReply]; omega)

theorem exec_rspReadInput_crc16 :
    exec (.rspReadInput dev rs (crc16 (readReplyBody dev 0x04 rs))) s = .next (loadReadReply dev 0x04 rs s) :=
  exec_reply (bytes := withCrc (readReplyBody dev 0x04 rs)) rfl rfl (by rw [length_readReply]; omega)

theorem loadReadReply_rxlen : (loadReadReply dev fn rs s).rxlen.toNat = 5 + 2 * rs.length := by
  have hlen := length_readReply dev fn rs
  rw [loadReadReply, (setRxFrame_frame s _ (by omega)).1, hlen]

theorem loadReadReply_rxAt {j : Nat} (hj : j < 5 + 2 * rs.length) :
    rxAt (loadReadReply dev fn rs s) j = (withCrc (readReplyBody dev fn rs)).getD j 0 := by
  have hlen := length_readReply dev fn rs
  have hfits : j < 256 := by omega
  rw [rxAt, loadReadReply, setRxFrame_rxbuf, elem_putAll, if_pos ⟨Nat.zero_le j, by omega, hfits⟩, Nat.sub_zero]

theorem loadReadReply_byteCount : (rxAt (loadReadReply dev fn rs s) 2).toNat = 2 * rs.length := by
  rw [loadReadReply_rxAt s dev fn rs hn (by omega)]
  show (BitVec.ofNat 8 (2 * rs.length)).toNat = 2 * rs.length
  rw [BitVec.toNat_ofNat]
  omega

/-- The registers `PARSE` reads are those the reply was made of (R159). -/
theorem replyRegs_loadReadReply : replyRegs (loadReadReply dev fn rs s) (2 * rs.length) = rs := by
  refine List.ext_getElem (by rw [length_replyRegs]; omega) fun k _ hk => ?_
  simp only [replyRegs, List.getElem_map, List.getElem_range, rxHalf]
  rw [loadReadReply_rxAt s dev fn rs hn (by omega), loadReadReply_rxAt s dev fn rs hn (by omega), Nat.add_comm 3]
  exact frombe16_getD_flatMap rs _ k hk

/-- The header of the reply: its CRC is good and is the one `CRC` takes (R152, R153). -/
theorem parseHeader_loadReadReply :
    (parseHeader (parseClear (loadReadReply dev fn rs s))).rflags.getLsbD 0 = true ∧
      (parseHeader (parseClear (loadReadReply dev fn rs s))).crc = crc16 (readReplyBody dev fn rs) := by
  have hlen := length_readReply dev fn rs
  have hrxlen := loadReadReply_rxlen s dev fn rs hn
  have hfirst : firstN (loadReadReply dev fn rs s).rxbuf (loadReadReply dev fn rs s).rxlen.toNat =
      withCrc (readReplyBody dev fn rs) := (setRxFrame_frame s _ (by omega)).2
  have hbody : firstN (loadReadReply dev fn rs s).rxbuf ((loadReadReply dev fn rs s).rxlen.toNat - 2) =
      readReplyBody dev fn rs := by
    rw [length_withCrc] at hlen
    rw [firstN_eq_take _ (Nat.sub_le _ 2), hfirst, withCrc, List.take_left' (by omega)]
  rw [parseHeader_eq _ (by omega) (by omega)]
  exact ⟨by rw [replyFlags_crcOk, hfirst, crcGood_withCrc], congrArg crc16 hbody⟩

/-- A request in `TXBUF` that is no read of another count passes the check of R161. -/
theorem countMismatch_loadReadReply
    (hreq : ¬(6 ≤ s.txlen.toNat ∧ ((txAt s 1).toNat = 3 ∨ (txAt s 1).toNat = 4) ∧
      rs.length ≠ (txAt s 4).toNat * 256 + (txAt s 5).toNat)) :
    countMismatch (loadReadReply dev fn rs s) = false := by
  refine decide_eq_false fun ⟨h6, hread, hne⟩ => hreq ⟨h6, hread, fun heq => hne ?_⟩
  have hhalf : (txHalf (loadReadReply dev fn rs s) 4).toNat = (txAt s 4).toNat * 256 + (txAt s 5).toNat :=
    toNat_frombe16 _ _
  rw [loadReadReply_byteCount s dev fn rs hn, hhalf, heq]

theorem parse_loadReadReply (hfn : fn.toNat = 3 ∨ fn.toNat = 4) (htx : s.txlen.toNat ≤ 256)
    (hcount : countMismatch (loadReadReply dev fn rs s) = false) :
    parse (loadReadReply dev fn rs s) = finish { parseHeader (parseClear (loadReadReply dev fn rs s)) with
      rbc := rxAt (loadReadReply dev fn rs s) 2, reg := putAll s.reg 0 rs, regn := BitVec.ofNat 32 rs.length
      rkind := 1 } := by
  have hlen := loadReadReply_rxlen s dev fn rs hn
  have hbc := loadReadReply_byteCount s dev fn rs hn
  have hbyte1 : rxAt (loadReadReply dev fn rs s) 1 = fn := loadReadReply_rxAt s dev fn rs hn (by omega)
  obtain ⟨hok, -⟩ := parseHeader_loadReadReply s dev fn rs hn
  rw [parse_pass (loadReadReply dev fn rs s) (by omega) htx hok (hbyte1.symm ▸ hfn) (by omega) (by omega) hcount, hbc,
    replyRegs_loadReadReply s dev fn rs hn, Nat.mul_div_cancel_left _ (by omega)]
  rfl

end

/-- Settles O45: either row loads a good read reply, which passes every check of `PARSE` (`parse_loadReadReply`). -/
theorem loadedReadReplyParsesToItsRegisters : Obligations.LoadedReadReplyParsesToItsRegisters := by
  unfold Obligations.LoadedReadReplyParsesToItsRegisters
  intro s u dev rs c i hi hn htx hreq hcrc hexec
  obtain ⟨fn, hfn, hc, hu⟩ : ∃ fn : Byte, (fn.toNat = 3 ∨ fn.toNat = 4) ∧ c = crc16 (readReplyBody dev fn rs) ∧
      u = loadReadReply dev fn rs s := by
    obtain rfl | rfl := hi
    · rw [if_pos rfl] at hcrc
      obtain rfl : c = crc16 (readReplyBody dev 0x03 rs) := hcrc
      rw [exec_rspReadHolding_crc16 s dev rs hn] at hexec
      exact ⟨0x03, .inl rfl, rfl, (Host.Outcome.next.inj hexec).symm⟩
    · rw [if_neg Instr.noConfusion] at hcrc
      obtain rfl : c = crc16 (readReplyBody dev 0x04 rs) := hcrc
      rw [exec_rspReadInput_crc16 s dev rs hn] at hexec
      exact ⟨0x04, .inr rfl, rfl, (Host.Outcome.next.inj hexec).symm⟩
  subst hu
  obtain ⟨hok, hheader⟩ := parseHeader_loadReadReply s dev fn rs hn
  have hcount := countMismatch_loadReadReply s dev fn rs hn hreq
  have hregn : (BitVec.ofNat 32 rs.length).toNat = rs.length := by
    rw [BitVec.toNat_ofNat]
    omega
  refine ⟨_, rfl, ?_⟩
  rw [parse_loadReadReply s dev fn rs hn hfn htx hcount]
  exact ⟨rfl, rfl, loadReadReply_rxAt s dev fn rs hn (by omega), hregn, firstN_putAll s.reg rs
    (hn.trans (by decide)), hok, hheader.trans hc.symm⟩

end Sys2Proof.Machine

/-! ### The CRC engine (40_crc.md R110 to R118) -/

namespace Sys2Proof.Machine

/-! The CRC of a byte sequence. -/

theorem crc16_append (a b : List Byte) : crc16 (a ++ b) = b.foldl crcByte (crc16 a) :=
  crcFrom_append 0xFFFF a b

theorem crc16_withCrc (bytes : List Byte) : crc16 (withCrc bytes) = 0x0000#16 := by
  rw [withCrc, crc16_append]
  exact crcByte_own_bytes (crc16 bytes)

/-- Settles O29: the fold law, and over the two bytes of a CRC the running CRC returns to 0 (`crcByte_own_bytes`). -/
theorem crcOfAClosedSequenceIsZero : Obligations.CrcOfAClosedSequenceIsZero :=
  ⟨rfl, crc16_append, crc16_withCrc⟩

/-- The argument of a command word is or-ed to its opcode's word (30_encoding.md R80). -/
theorem commandWord_eq_or (o : BitVec 8) (a : BitVec 24) : commandWord o a = commandWord o 0 ||| a.setWidth 32 := by
  refine BitVec.eq_of_getLsbD_eq fun k hk => ?_
  simp only [commandWord, BitVec.getLsbD_or, BitVec.getLsbD_append, BitVec.getLsbD_setWidth]
  by_cases h : k < 24
  · simp [h, hk]
  · simp [h, BitVec.getLsbD_of_ge a k (Nat.le_of_not_lt h)]

/-- Settles O26: the word and the answered state are those of the definitions. -/
theorem crcinitLoadsTheInitialValue : Obligations.CrcinitLoadsTheInitialValue :=
  ⟨rfl, fun _ => rfl⟩

/-- Settles O27: the closed values of rule R111, computed. -/
theorem crcByteTrace : Obligations.CrcByteTrace := by
  unfold Obligations.CrcByteTrace
  decide

/-- Settles O28: the operation is one `crcByte` of the running CRC; the examples are computed. -/
theorem crcbyteContinuesTheRunningCrc : Obligations.CrcbyteContinuesTheRunningCrc := by
  refine ⟨fun b => ?_, fun _ _ => rfl, by decide, by decide, by decide⟩
  rw [encode, commandWord_eq_or, BitVec.setWidth_setWidth (by omega)]
  rfl

section
variable (s : State) (sel : BufSel)

/-! How each operation on a buffer ends. -/

theorem crcbuf_ok (len : Nat) (hlen : lenOf s sel ≤ 256 ∧ len ≤ lenOf s sel) :
    crcbuf sel len s = finish { s with crc := crc16 (firstN (bufOf s sel) len) } :=
  if_neg (by omega)

theorem crcbuf_error (len : Nat) (hlen : 256 < lenOf s sel ∨ lenOf s sel < len) :
    crcbuf sel len s = raise .operand s :=
  if_pos hlen

theorem crcapp_error (hlen : 254 < s.txlen.toNat) : crcapp s = raise .operand s :=
  if_pos hlen

/-- In range, `CRCVFY` decides the frame invariant of 30_encoding.md R91. -/
theorem crcvfy_ok (hlen : 2 ≤ lenOf s sel ∧ lenOf s sel ≤ 256) :
    crcvfy sel s =
      if crcGood (firstN (bufOf s sel) (lenOf s sel)) = true then finish { s with crc := bodyCrc s sel }
      else raise .frameCrc { s with crc := bodyCrc s sel } := by
  rw [crcvfy, if_neg (by omega), crcMatches_iff s sel hlen.1 hlen.2]

theorem crcvfy_error (hlen : 256 < lenOf s sel ∨ lenOf s sel < 2) : crcvfy sel s = raise .operand s :=
  if_pos hlen

/-- `SEL` and `LEN` of format L, each or-ed to the word (30_encoding.md R82). -/
theorem setWidth_argL (len : BitVec 9) : (BitVec.ofNat 24 (sel.num * 2 ^ 16 + len.toNat)).setWidth 32 =
    (if sel = .rx then 0x00010000#32 else 0#32) ||| len.setWidth 32 := by
  cases sel <;> revert len <;> decide +kernel

end

/-- Settles O30, by the two endings of `CRCBUF`. -/
theorem crcbufOfAPrefix : Obligations.CrcbufOfAPrefix := by
  refine ⟨rfl, by decide +kernel, fun s sel len => ⟨?_, fun hlen => ?_, fun hlen => ?_⟩⟩
  · rw [encode, commandWord_eq_or, setWidth_argL, ← BitVec.or_assoc]
    rfl
  · exact congrArg Host.Outcome.next (crcbuf_ok s sel len.toNat hlen)
  · exact congrArg Host.Outcome.next (crcbuf_error s sel len.toNat hlen)

/-- Settles O32: in range the operation decides the frame invariant (`crcvfy_ok`). -/
theorem crcvfyChecksTheFrameInvariant : Obligations.CrcvfyChecksTheFrameInvariant := by
  refine ⟨rfl, rfl, rfl, by decide +kernel, by decide +kernel, fun s sel => ⟨fun hlen => ?_, fun hlen => ?_⟩⟩
  · exact congrArg Host.Outcome.next (crcvfy_ok s sel hlen)
  · exact congrArg Host.Outcome.next (crcvfy_error s sel hlen)

/-! Frames closed by their CRC (40_crc.md R116, R117, 41_frame_builder.md R132). -/

/-- What `CRCAPP` and `BUILD` leave when they end without an error: `TXBUF` holds `body` closed by its CRC, which is
also in `CRC`. -/
structure ClosedTx (t : State) (body : List Byte) : Prop where
  bytes : firstN t.txbuf t.txlen.toNat = withCrc body
  fits : t.txlen.toNat ≤ 256
  crc : t.crc = crc16 body
  err : t.err = 0x00

theorem ClosedTx.txlen_eq {t : State} {body : List Byte} (h : ClosedTx t body) : t.txlen.toNat = body.length + 2 := by
  have hlen := congrArg List.length h.bytes
  rwa [length_firstN, Nat.min_eq_left h.fits, length_withCrc] at hlen

theorem ClosedTx.bodyCrc_eq {t : State} {body : List Byte} (h : ClosedTx t body) : bodyCrc t .tx = crc16 body := by
  have hbody : firstN t.txbuf (t.txlen.toNat - 2) = body := by
    rw [firstN_eq_take _ (Nat.sub_le _ 2), h.bytes, withCrc, h.txlen_eq]
    exact List.take_left
  exact congrArg crc16 hbody

/-- `CRCVFY` finds nothing to change in a closed frame (R117). -/
theorem ClosedTx.crcvfy_eq {t : State} {body : List Byte} (h : ClosedTx t body) : crcvfy .tx t = t := by
  have hlen := h.txlen_eq
  have hgood : crcGood (firstN (bufOf t .tx) (lenOf t .tx)) = true :=
    (congrArg crcGood h.bytes).trans (crcGood_withCrc body)
  rw [crcvfy_ok t .tx ⟨by rw [lenOf]; omega, h.fits⟩, if_pos hgood, h.bodyCrc_eq, ← h.crc, finish, ← h.err]

theorem crcapp_txlen (s : State) (hlen : s.txlen.toNat ≤ 254) : (crcapp s).txlen.toNat = s.txlen.toNat + 2 := by
  rw [crcapp_ok s hlen]
  bv_omega

theorem crcapp_closedTx (s : State) (hlen : s.txlen.toNat ≤ 254) :
    ClosedTx (crcapp s) (firstN s.txbuf s.txlen.toNat) where
  bytes := by
    rw [crcapp_txlen s hlen, crcapp_ok s hlen]
    exact firstN_putAll_append s.txbuf s.txlen.toNat (le16 _) (Nat.add_le_add_right hlen 2)
  fits := by
    rw [crcapp_txlen s hlen]
    omega
  crc := by rw [crcapp_ok s hlen]
  err := by rw [crcapp_ok s hlen]

theorem build_closedTx (s : State) (haccepted : buildRejects s = false) : ClosedTx (build s) (buildBody s) := by
  have hfits : (withCrc (buildBody s)).length ≤ 256 := (length_withCrc _).trans_le (buildBody_fits s haccepted)
  obtain ⟨htxlen, hbytes⟩ := setTxFrame_frame s _ hfits
  rw [build_accepted s haccepted]
  exact ⟨hbytes, htxlen.trans_le hfits, rfl, rfl⟩

/-- Settles O31: the new bytes are the old ones closed by their CRC (`crcapp_closedTx`), put at `TXLEN` and
`TXLEN + 1` alone. -/
theorem crcappClosesTheFrame : Obligations.CrcappClosesTheFrame := by
  refine ⟨rfl, by decide +kernel, fun s => ⟨fun hlen => ?_, fun hlen => ?_⟩⟩
  · have hbytes := (crcapp_closedTx s hlen).bytes
    rw [crcapp_txlen s hlen] at hbytes
    refine ⟨crcapp s, rfl, crcapp_txlen s hlen, hbytes, fun k hlo hhi => ?_, ?_⟩
    · have hout : ¬(s.txlen.toNat ≤ k ∧ k < s.txlen.toNat + 2 ∧ k < 256) := by omega
      rw [crcapp_ok s hlen, txAt, elem_putAll]
      exact if_neg hout
    · rw [crcapp_ok s hlen]
  · exact congrArg Host.Outcome.next (crcapp_error s hlen)

/-- No error has the result code 0 (60_exceptions.md R250). -/
theorem raise_err_ne_zero (e : ErrCode) (s : State) : (raise e s).err ≠ 0x00#8 := by
  rw [raise_err]
  cases e <;> decide

/-- Settles O33: an ending with `ERR` 0 is the one that closes the frame, and `CRCVFY` keeps a closed frame. -/
theorem closedFramesVerify : Obligations.ClosedFramesVerify := by
  rintro i s t (rfl | rfl) hexec herr
  · obtain rfl : crcapp s = t := Host.Outcome.next.inj hexec
    have hlen : s.txlen.toNat ≤ 254 := by
      by_contra hlong
      rw [crcapp_error s (Nat.lt_of_not_le hlong)] at herr
      exact raise_err_ne_zero _ _ herr
    exact congrArg Host.Outcome.next (crcapp_closedTx s hlen).crcvfy_eq
  · obtain rfl : build s = t := Host.Outcome.next.inj hexec
    have haccepted : buildRejects s = false := by
      by_contra hrejected
      rw [build_rejected s (eq_true_of_ne_false hrejected)] at herr
      exact raise_err_ne_zero _ _ herr
    exact congrArg Host.Outcome.next (build_closedTx s haccepted).crcvfy_eq

end Sys2Proof.Machine

/-! ### The frame builder (41_frame_builder.md R130 to R140) -/

namespace Sys2Proof.Machine

section
variable {s t : State} {body : List Byte}

/-! What the eight conditions of R136 leave. -/

/-- The operand ranges of an accepted `BUILD` (R136). -/
theorem operands_of_accepted (h : buildRejects s = false) :
    s.devaddr.toNat ≤ 247 ∧ s.regaddr.toNat ≤ 105536 ∧
      (s.func.toNat = 3 ∨ s.func.toNat = 4 ∨ s.func.toNat = 6 ∨ s.func.toNat = 16) ∧
      (s.func.toNat = 16 → s.count.toNat ≤ 123) := by
  have hgood := mt (buildRejects_iff s).mpr (ne_true_of_eq_false h)
  simp only at hgood
  omega

/-- `BUILD` that ends with `ERR` 0 accepted its operands. -/
theorem accepted_of_build (hexec : exec .build s = .next t) (herr : t.err = 0x00#8) :
    buildRejects s = false ∧ build s = t := by
  obtain rfl : build s = t := Host.Outcome.next.inj hexec
  refine ⟨eq_false_of_ne_true fun hrejected => ?_, rfl⟩
  rw [build_rejected s hrejected] at herr
  exact raise_err_ne_zero _ _ herr

theorem toNat_wireHalf (h : s.regaddr.toNat ≤ 105536) : (wireHalf s).toNat = wire s.regaddr.toNat := by
  have hfits := mt (wire_exceeds s.regaddr.toNat).mp (Nat.not_lt.mpr h)
  rw [wireHalf, BitVec.toNat_ofNat]
  omega

/-! The values a write request carries (R134, R135). -/

theorem writeValue_eq : writeValue s = if s.nval.toNat = 0 then 0 else (valAt s 0).setWidth 16 := by
  unfold writeValue
  split
  next h => rw [if_neg (by omega)]
  next h => rw [if_pos (by omega)]

theorem firstN_eq_map_elem {α : Type} {n : Nat} (d : α) (v : Vector α n) {k : Nat} (h : k ≤ n) :
    firstN v k = (List.range k).map (elem d v) := by
  have hlen : ((List.range k).map (elem d v)).length = k := by rw [List.length_map, List.length_range]
  conv_lhs => rw [← hlen]
  refine firstN_eq d v _ (by omega) fun j hj => ?_
  rw [List.getD_eq_getElem _ _ hj, List.getElem_map, List.getElem_range]

theorem writeValues_eq (h : s.count.toNat ≤ 123) : writeValues s = (List.range s.count.toNat).map fun j =>
    if s.nval.toNat = 0 then 0 else (valAt s j).setWidth 16 := by
  unfold writeValues
  split
  next => rw [List.map_const', List.length_range]
  next => rw [firstN_eq_map_elem 0 s.val h, List.map_map]; rfl

/-! The frame of each function is the image of its request row (R92 to R94). -/

/-- The request `BUILD` makes of its operands (R133 to R135), with CRC field `c`. -/
def builtRequest (s : State) (c : Half) : Instr :=
  if s.func.toNat = 3 then .reqReadHolding (s.devaddr.setWidth 8) (wireHalf s) (s.count.setWidth 16) c
  else if s.func.toNat = 4 then .reqReadInput (s.devaddr.setWidth 8) (wireHalf s) (s.count.setWidth 16) c
  else if s.func.toNat = 6 then .reqWriteSingle (s.devaddr.setWidth 8) (wireHalf s) (writeValue s) c
  else .reqWriteMultiple (s.devaddr.setWidth 8) (wireHalf s) (writeValues s) c

theorem encode_builtRequest (haccepted : buildRejects s = false) (c : Half) :
    encode (builtRequest s c) = .frame .tx (buildBody s ++ le16 c) := by
  obtain ⟨-, -, hfunc, hwrite⟩ := operands_of_accepted haccepted
  rw [builtRequest, buildBody, buildHead]
  obtain h | h | h | h := hfunc
  · rw [show s.func = 3 from BitVec.eq_of_toNat_eq h]
    rfl
  · rw [show s.func = 4 from BitVec.eq_of_toNat_eq h]
    rfl
  · rw [show s.func = 6 from BitVec.eq_of_toNat_eq h]
    rfl
  · rw [show s.func = 16 from BitVec.eq_of_toNat_eq h]
    show encode (.reqWriteMultiple _ _ _ _) = .frame .tx (_ ++ _ :: _ ++ _)
    rw [encode, length_writeValues s (hwrite h), BitVec.ofNat_toNat, List.append_assoc, List.append_assoc]
    rfl

theorem builtRequest_wf (haccepted : buildRejects s = false) (c : Half) : (builtRequest s c).wf true = true := by
  obtain ⟨-, -, hfunc, hwrite⟩ := operands_of_accepted haccepted
  unfold builtRequest
  split
  next => rfl
  split
  next => rfl
  split
  next => rfl
  next =>
    have hn := hwrite (by omega)
    refine decide_eq_true ?_
    rw [length_writeValues s hn]
    omega

/-! The bytes of a closed frame, one by one. -/

theorem ClosedTx.txAt_eq (h : ClosedTx t body) {j : Nat} (hj : j < body.length + 2) :
    txAt t j = (withCrc body).getD j 0 := by
  rw [← h.bytes, getD_firstN 0 _ _ _ (by rwa [h.txlen_eq])]
  rfl

/-- The last two bytes of a closed frame are its CRC, low byte first (30_encoding.md R91). -/
theorem ClosedTx.last_bytes (h : ClosedTx t body) :
    frombe16 (txAt t (t.txlen.toNat - 1)) (txAt t (t.txlen.toNat - 2)) = t.crc := by
  have hlo : txAt t body.length = lo8 (crc16 body) := by
    rw [h.txAt_eq (by omega), withCrc, List.getD_append_right _ _ _ _ (le_refl _), Nat.sub_self]
    rfl
  have hhi : txAt t (body.length + 1) = hi8 (crc16 body) := by
    rw [h.txAt_eq (by omega), withCrc, List.getD_append_right _ _ _ _ (by omega), Nat.add_sub_cancel_left]
    rfl
  rw [h.txlen_eq, Nat.add_sub_cancel, show body.length + 2 - 1 = body.length + 1 from rfl, hlo, hhi, frombe16_hi_lo,
    h.crc]

/-- `head` of R132 begins every body. -/
theorem exists_buildBody_eq (s : State) : ∃ tail, buildBody s = buildHead s ++ tail := by
  unfold buildBody
  split
  · exact ⟨_, rfl⟩
  · split
    · exact ⟨_, List.append_assoc _ _ _⟩
    · exact ⟨_, rfl⟩

/-- Bytes 0 to 3 of a built frame (R138). -/
theorem build_txAt_head (haccepted : buildRejects s = false) {j : Nat} (hj : j < 4) :
    txAt (build s) j = (buildHead s).getD j 0 := by
  obtain ⟨tail, htail⟩ := exists_buildBody_eq s
  have hlen : (buildBody s).length = 4 + tail.length := by
    rw [htail, List.length_append]
    rfl
  rw [(build_closedTx s haccepted).txAt_eq (by omega), withCrc, List.getD_append _ _ _ _ (by omega), htail,
    List.getD_append _ _ _ _ hj]

theorem build_txAt_beyond (haccepted : buildRejects s = false) {k : Nat} (hk : (build s).txlen.toNat ≤ k) :
    txAt (build s) k = txAt s k := by
  have hlen := (build_closedTx s haccepted).txlen_eq
  have hout : ¬(0 ≤ k ∧ k < 0 + (withCrc (buildBody s)).length ∧ k < Config.bufSize) := by
    rw [length_withCrc]
    omega
  rw [build_accepted s haccepted]
  exact (elem_putAll 0 _ s.txbuf 0 k).trans (if_neg hout)

end

/-- Settles O36: the bytes are the image of a well-formed request (`encode_builtRequest`), which the decoder reads
back. -/
theorem builtFrameDecodesToItsRequest : Obligations.BuiltFrameDecodesToItsRequest := by
  unfold Obligations.BuiltFrameDecodesToItsRequest
  intro s t hexec herr
  obtain ⟨haccepted, rfl⟩ := accepted_of_build hexec herr
  obtain ⟨-, -, hfunc, hwrite⟩ := operands_of_accepted haccepted
  have hclosed := build_closedTx s haccepted
  have hdecode : decodeFrame .tx (withCrc (buildBody s)) = .ok (builtRequest s (crc16 (buildBody s))) :=
    decodeFrame_complete (encode_builtRequest haccepted _) (builtRequest_wf haccepted _)
  rw [hclosed.bytes, hclosed.crc, hdecode, builtRequest, writeValue_eq]
  obtain h | h | h | h := hfunc
  · simp only [h]
    rfl
  · simp only [h]
    rfl
  · simp only [h]
    rfl
  · rw [writeValues_eq (hwrite h)]
    rfl

/-- Settles O35: `buildRejects` decides the eight conditions (`buildRejects_iff`). -/
theorem buildRejectsExactlyTheMalformedInputs : Obligations.BuildRejectsExactlyTheMalformedInputs := by
  unfold Obligations.BuildRejectsExactlyTheMalformedInputs
  refine fun s => ⟨fun hbad => ?_, fun hgood => ?_⟩
  · exact congrArg Host.Outcome.next (build_rejected s ((buildRejects_iff s).mpr hbad))
  · have haccepted : buildRejects s = false := eq_false_of_ne_true (mt (buildRejects_iff s).mp hgood)
    refine ⟨build s, rfl, ?_⟩
    rw [build_accepted s haccepted]
    exact ⟨rfl, rfl⟩

/-- Settles O37: `TXBUF` holds `head` and the rest of the body, closed by the CRC (`build_closedTx`). -/
theorem buildPostconditions : Obligations.BuildPostconditions := by
  unfold Obligations.BuildPostconditions
  intro s t hexec herr
  obtain ⟨haccepted, rfl⟩ := accepted_of_build hexec herr
  obtain ⟨hdev, haddr, hfunc, -⟩ := operands_of_accepted haccepted
  have hclosed := build_closedTx s haccepted
  have hwaddr : (build s).waddr = wireHalf s := by rw [build_accepted s haccepted]; rfl
  have hverify : exec (.crcvfy .tx) (build s) = .next (build s) := closedFramesVerify .build s _ (.inr rfl) hexec herr
  refine ⟨?length, ?device, ?function, ?address, ?wire, hclosed.last_bytes, ?crc, ?closed, ⟨_, hverify, herr⟩,
    fun k => build_txAt_beyond haccepted, ?frame⟩
  case length =>
    rw [hclosed.txlen_eq, length_buildBody s haccepted]
    split <;> omega
  case device =>
    rw [build_txAt_head haccepted (by omega)]
    exact (BitVec.toNat_setWidth 8 s.devaddr).trans (Nat.mod_eq_of_lt (by omega))
  case function =>
    rw [build_txAt_head haccepted (by omega)]
    exact (BitVec.toNat_setWidth 8 s.func).trans (Nat.mod_eq_of_lt (by omega))
  case address =>
    rw [txHalf, build_txAt_head haccepted (by omega), build_txAt_head haccepted (by omega), hwaddr]
    exact frombe16_hi_lo (wireHalf s)
  case wire => rw [hwaddr, toNat_wireHalf haddr]; rfl
  case crc => rw [hclosed.crc]; exact hclosed.bodyCrc_eq.symm
  case closed => rw [hclosed.bytes, crc16_withCrc]
  case frame => rw [build_accepted s haccepted]; rfl

/-! `ADDRCONV` and `EXPLEN` (R131, R140). -/

section
variable (s : State)

theorem addrconv_ok (h : s.regaddr.toNat ≤ 105536) : addrconv s = finish { s with waddr := wireHalf s } :=
  if_neg (mt (wire_exceeds _).mp (Nat.not_lt.mpr h))

theorem addrconv_error (h : 105536 < s.regaddr.toNat) : addrconv s = raise .configuration s :=
  if_pos ((wire_exceeds _).mpr h)

theorem explenOp_ok (h : s.txlen.toNat ≤ 256) :
    explenOp s = finish { s with explen := BitVec.ofNat 32 (expectedLength s) } :=
  if_neg (Nat.not_lt.mpr h)

theorem explenOp_error (h : 256 < s.txlen.toNat) : explenOp s = raise .operand s :=
  if_pos h

end

/-- Settles O34: `wire` below and from 40001, and the bound of 16 bits (`wire_exceeds`). -/
theorem addrconvConvertsTheLogicalAddress : Obligations.AddrconvConvertsTheLogicalAddress := by
  refine ⟨rfl, fun s => ⟨fun hlow => ?_, fun ⟨hge, hle⟩ => ?_, fun hbeyond => ?_⟩⟩
  · have hwire : wire s.regaddr.toNat = s.regaddr.toNat := if_neg (Nat.not_le.mpr hlow)
    rw [exec, execAddrconv, addrconv_ok s (by omega), wireHalf, hwire]
    rfl
  · have hwire : wire s.regaddr.toNat = s.regaddr.toNat - 40001 := if_pos hge
    rw [exec, execAddrconv, addrconv_ok s hle, wireHalf, hwire]
    rfl
  · exact congrArg Host.Outcome.next (addrconv_error s hbeyond)

/-- `EXPLEN` in range stores the value of `expectedLength`. -/
theorem exec_explen_eq {s : State} {n : Nat} (hlen : s.txlen.toNat ≤ 256) (hn : expectedLength s = n) :
    exec .explen s = .next { s with explen := BitVec.ofNat 32 n, err := 0x00 } := by
  subst hn
  exact congrArg Host.Outcome.next (explenOp_ok s hlen)

/-- Settles O38, by the branches of `expectedLength`. -/
theorem explenOfTheRequest : Obligations.ExplenOfTheRequest := by
  refine ⟨rfl, fun s => ⟨fun hshort => ?_, fun ⟨hmin, hmax, hread⟩ => ?_, fun ⟨hmin, hmax, hwrite⟩ => ?_,
    fun ⟨hmin, hmax, hother⟩ => ?_, fun hlong => ?_⟩⟩
  · exact exec_explen_eq (by omega) (if_pos hshort)
  · refine exec_explen_eq hmax ?_
    rw [expectedLength, if_neg (by omega), if_pos hread, txHalf, toNat_frombe16]
  · refine exec_explen_eq hmax ?_
    rw [expectedLength, if_neg (by omega), if_neg (by omega), if_pos hwrite]
  · refine exec_explen_eq hmax ?_
    rw [expectedLength, if_neg (by omega), if_neg (by omega), if_neg (by omega)]
  · exact congrArg Host.Outcome.next (explenOp_error s hlong)

end Sys2Proof.Machine

/-! ### The frame parser (42_frame_parser.md R150 to R164) -/

namespace Sys2Proof.Machine

section
variable (s : State)

/-! How step 7 ends for a read reply and for an echo (R159 to R162). -/

theorem parseRead_truncated (hlen : s.rxlen.toNat < 3 + (rxAt s 2).toNat) :
    parseRead s = raise .frameTrunc { s with rbc := rxAt s 2 } :=
  if_pos hlen

theorem parseRead_badCount (hlen : 3 + (rxAt s 2).toNat ≤ s.rxlen.toNat)
    (hcount : (rxAt s 2).toNat % 2 = 1 ∨ countMismatch s = true) :
    parseRead s = raise .frameCount { s with rbc := rxAt s 2 } := by
  simp only [parseRead]
  rw [if_neg (by omega)]
  split
  next => rfl
  next heven => rw [if_pos (hcount.resolve_left heven)]

theorem countMismatch_iff : countMismatch s = true ↔
    6 ≤ s.txlen.toNat ∧ ((txAt s 1).toNat = 3 ∨ (txAt s 1).toNat = 4) ∧
      (rxAt s 2).toNat ≠ 2 * ((txAt s 4).toNat * 256 + (txAt s 5).toNat) := by
  rw [countMismatch, decide_eq_true_iff, txHalf, toNat_frombe16]

theorem getD_replyRegs {bc k : Nat} (hk : k < bc / 2) : (replyRegs s bc).getD k 0 = rxHalf s (3 + 2 * k) := by
  rw [List.getD_eq_getElem _ _ (by rwa [length_replyRegs])]
  simp only [replyRegs, List.getElem_map, List.getElem_range]

/-- The block a read reply leaves: its words, then the entries as they were (R159). -/
theorem elem_putAll_replyRegs {bc : Nat} (hbc : bc / 2 ≤ 126) (k : Nat) :
    elem 0 (putAll s.reg 0 (replyRegs s bc)) k = if k < bc / 2 then rxHalf s (3 + 2 * k) else regAt s k := by
  rw [elem_putAll, length_replyRegs, Nat.zero_add]
  split
  next h => rw [if_pos h.2.1, Nat.sub_zero, getD_replyRegs s h.2.1]
  next h => rw [if_neg fun hk => h ⟨k.zero_le, hk, hk.trans_le hbc⟩]; rfl

theorem parseEcho_truncated (hlen : s.rxlen.toNat < 6) : parseEcho s = raise .frameTrunc s :=
  if_pos hlen

theorem parseEcho_pass (hlen : 6 ≤ s.rxlen.toNat) :
    parseEcho s = finish (setEchoMatch
      (decide (6 ≤ s.txlen.toNat) && (List.range 6).all fun k => decide (rxAt s k = txAt s k))
      { s with
        rwaddr := rxHalf s 2, rwval := rxHalf s 4, rkind := if (rxAt s 1).toNat = 6 then 2 else 3 }) := by
  have hecho : decide (6 ≤ s.txlen.toNat ∧ firstN s.rxbuf 6 = firstN s.txbuf 6) =
      (decide (6 ≤ s.txlen.toNat) && (List.range 6).all fun k => decide (rxAt s k = txAt s k)) := by
    rw [Bool.decide_and]
    congr 1
    rw [Bool.eq_iff_iff, decide_eq_true_iff, List.all_eq_true, firstN_six]
    simp only [List.mem_range, decide_eq_true_eq]
    rfl
  rw [parseEcho, if_neg (Nat.not_lt.mpr hlen), hecho]

/-! `PARSE` of a response whose length is in range: the header, then the dispatch on it (R152 to R163). -/

section
variable (hmin : 3 ≤ s.rxlen.toNat) (hmax : s.rxlen.toNat ≤ 256)
include hmin hmax

theorem parseHeader_crcOk : (parseHeader (parseClear s)).rflags.getLsbD 0 = crcGood (firstN s.rxbuf s.rxlen.toNat) := by
  rw [parseHeader_eq s hmin hmax, replyFlags_crcOk]

variable (htx : s.txlen.toNat ≤ 256)
include htx

theorem parse_eq_parseBody : parse s = parseBody (parseHeader (parseClear s)) := by
  obtain ⟨h, -⟩ | ⟨h, -⟩ | ⟨-, -, -, h⟩ := parse_cases s
  · omega
  · omega
  · exact h

/-- `parseBody_cases` from the header's state, with `CRC_OK` and byte 1 read off the response. -/
theorem parse_dispatch :
    (s.crcchk = true ∧ crcGood (firstN s.rxbuf s.rxlen.toNat) = false →
      parse s = raise .frameCrc (parseHeader (parseClear s))) ∧
    (¬(s.crcchk = true ∧ crcGood (firstN s.rxbuf s.rxlen.toNat) = false) →
      (128 ≤ (rxAt s 1).toNat → parse s = parseError (parseHeader (parseClear s))) ∧
      ((rxAt s 1).toNat = 3 ∨ (rxAt s 1).toNat = 4 → parse s = parseRead (parseHeader (parseClear s))) ∧
      ((rxAt s 1).toNat = 6 ∨ (rxAt s 1).toNat = 16 → parse s = parseEcho (parseHeader (parseClear s))) ∧
      ((rxAt s 1).toNat < 128 →
        ¬((rxAt s 1).toNat = 3 ∨ (rxAt s 1).toNat = 4 ∨ (rxAt s 1).toNat = 6 ∨ (rxAt s 1).toNat = 16) →
        parse s = raise .frameFunc (parseHeader (parseClear s)))) := by
  rw [parse_eq_parseBody s hmin hmax htx, ← parseHeader_crcOk s hmin hmax]
  exact parseBody_cases (parseHeader (parseClear s))

end

/-- An error reply ends in an error, with no block and no read reported (R154). -/
theorem parse_errorReply (hmin : 3 ≤ s.rxlen.toNat) (herror : 128 ≤ (rxAt s 1).toNat) :
    ∃ e u, parse s = raise e u ∧ u.rkind ≠ 1#3 ∧ u.regn = 0#32 := by
  have hnone : 0#3 ≠ 1#3 := by decide
  have hprotocol : 4#3 ≠ 1#3 := by decide
  obtain ⟨-, h⟩ | ⟨-, -, h⟩ | ⟨-, hmax, htx, -⟩ := parse_cases s
  · exact ⟨_, _, h, hnone, rfl⟩
  · exact ⟨_, _, h, hnone, rfl⟩
  · obtain ⟨hbad, hgood⟩ := parse_dispatch s hmin hmax htx
    by_cases hcrc : s.crcchk = true ∧ crcGood (firstN s.rxbuf s.rxlen.toNat) = false
    · exact ⟨_, _, hbad hcrc, hnone, rfl⟩
    · obtain ⟨h, -⟩ := hgood hcrc
      exact ⟨_, _, h herror, hprotocol, rfl⟩

/-! A `PARSE` that fails leaves no register block (R164). -/

theorem parseRead_ok_or_regn : (parseRead s).err = 0x00#8 ∨ (parseRead s).regn = s.regn := by
  by_cases hlen : s.rxlen.toNat < 3 + (rxAt s 2).toNat
  · rw [parseRead_truncated s hlen]
    exact .inr rfl
  · by_cases hcount : (rxAt s 2).toNat % 2 = 1 ∨ countMismatch s = true
    · rw [parseRead_badCount s (Nat.not_lt.mp hlen) hcount]
      exact .inr rfl
    · obtain ⟨heven, hmatch⟩ := not_or.mp hcount
      rw [parseRead_pass s (Nat.not_lt.mp hlen) (by omega) (eq_false_of_ne_true hmatch)]
      exact .inl rfl

theorem parseBody_ok_or_regn : (parseBody s).err = 0x00#8 ∨ (parseBody s).regn = s.regn := by
  unfold parseBody
  split
  next => exact .inr rfl
  split
  next => exact .inr rfl
  split
  next => exact parseRead_ok_or_regn s
  split
  next => rw [parseEcho_frame]; exact .inr rfl
  next => exact .inr rfl

theorem parse_ok_or_regn_zero : (parse s).err = 0x00#8 ∨ (parse s).regn = 0#32 := by
  obtain ⟨-, h⟩ | ⟨-, -, h⟩ | ⟨-, -, -, h⟩ := parse_cases s
  · rw [h]
    exact .inr rfl
  · rw [h]
    exact .inr rfl
  · rw [h]
    exact parseBody_ok_or_regn (parseHeader (parseClear s))

/-- A block of no registers is too short for either mode (43_scaling.md R201, R202). -/
theorem decodeBlock_of_regn_zero (hregn : s.regn = 0#32) (hnfd : s.nfd.toNat ≤ 64) :
    decodeBlock s = raise .decode (setOutv false s) := by
  have hzero : s.regn.toNat = 0 := congrArg BitVec.toNat hregn
  have hneed : 0 < need s := by
    unfold need
    split <;> decide
  refine decodeBlock_error s .decode ?_
  rw [decodeCheck, if_neg (by omega), if_pos (by omega)]

end

/-- Settles O40: the three outcomes of the dispatch that stop after the header. -/
theorem parseRejectsByHeader : Obligations.ParseRejectsByHeader := by
  unfold Obligations.ParseRejectsByHeader
  intro s hmin hmax htx good header
  have hheader : parseHeader (parseClear s) = header := parseHeader_eq s hmin hmax
  obtain ⟨hbad, hgood⟩ := parse_dispatch s hmin hmax htx
  rw [hheader] at hbad hgood
  refine ⟨fun hcrc => ?_, fun ⟨hcrc, herror⟩ => ?_, fun ⟨hcrc, hseven, hlisted⟩ => ?_⟩
  · exact congrArg Host.Outcome.next (hbad hcrc)
  · obtain ⟨hprotocol, -⟩ := hgood hcrc
    exact congrArg Host.Outcome.next (hprotocol herror)
  · obtain ⟨-, -, -, hfunc⟩ := hgood hcrc
    exact congrArg Host.Outcome.next (hfunc hseven hlisted)

/-- Settles O41: every ending of such a reply is an error that reports no read (`parse_errorReply`). -/
theorem errorReplyIsNeverARead : Obligations.ErrorReplyIsNeverARead := by
  unfold Obligations.ErrorReplyIsNeverARead
  intro s t hmin herror hexec
  obtain rfl : parse s = t := Host.Outcome.next.inj hexec
  obtain ⟨e, u, hraise, hkind, hregn⟩ := parse_errorReply s hmin herror
  rw [hraise]
  exact ⟨raise_err_ne_zero e u, hkind, hregn⟩

/-- Settles O42: past the CRC check the outcome is that of `parseRead` from the header's state. -/
theorem parseOfAReadReply : Obligations.ParseOfAReadReply := by
  unfold Obligations.ParseOfAReadReply
  intro s hmin hmax htx hcrc hfn bc mismatch header
  obtain ⟨-, hgood⟩ := parse_dispatch s hmin hmax htx
  obtain ⟨-, hread, -⟩ := hgood fun ⟨hchk, hbad⟩ => ne_true_of_eq_false hbad (hcrc hchk)
  have hparse := hread hfn
  rw [parseHeader_eq s hmin hmax] at hparse
  have hmismatch : countMismatch s = true ↔ mismatch := countMismatch_iff s
  refine ⟨fun hlen => ?_, fun ⟨hlen, hcount⟩ => ?_, fun ⟨hlen, heven, hmatch⟩ => ?_⟩
  · exact congrArg Host.Outcome.next (hparse.trans (parseRead_truncated _ hlen))
  · exact congrArg Host.Outcome.next (hparse.trans (parseRead_badCount _ hlen (hcount.imp_right hmismatch.mpr)))
  · have hbc : bc / 2 ≤ 126 := by omega
    have hregn : (BitVec.ofNat 32 (bc / 2)).toNat = bc / 2 := by
      rw [BitVec.toNat_ofNat]
      omega
    have hreg := elem_putAll_replyRegs s hbc
    refine ⟨_, congrArg Host.Outcome.next (hparse.trans (parseRead_pass _ hlen heven
      (eq_false_of_ne_true (mt hmismatch.mp hmatch)))), hregn, hregn.trans_le hbc, rfl, fun k hk => ?_, fun k hk => ?_,
      rfl⟩
    · have hword := (hreg k).trans (if_pos hk)
      rw [rxHalf, show 3 + 2 * k + 1 = 4 + 2 * k by omega] at hword
      exact (congrArg BitVec.toNat hword).trans (toNat_frombe16 _ _)
    · exact (hreg k).trans (if_neg (Nat.not_lt.mpr hk))

/-- Settles O43: past the CRC check the outcome is that of `parseEcho` from the header's state. -/
theorem parseOfAnEchoReply : Obligations.ParseOfAnEchoReply := by
  unfold Obligations.ParseOfAnEchoReply
  intro s hmin hmax htx hcrc hfn header
  obtain ⟨-, hgood⟩ := parse_dispatch s hmin hmax htx
  obtain ⟨-, -, hecho, -⟩ := hgood fun ⟨hchk, hbad⟩ => ne_true_of_eq_false hbad (hcrc hchk)
  have hparse := hecho hfn
  rw [parseHeader_eq s hmin hmax] at hparse
  refine ⟨fun hlen => ?_, fun hlen => ?_⟩
  · exact congrArg Host.Outcome.next (hparse.trans (parseEcho_truncated _ hlen))
  · exact congrArg Host.Outcome.next (hparse.trans (parseEcho_pass _ hlen))

/-- Settles O44: a failed `PARSE` leaves `REGN` 0 (`parse_ok_or_regn_zero`), which no `DECODE` accepts. -/
theorem failedParseCannotBeDecoded : Obligations.FailedParseCannotBeDecoded := by
  unfold Obligations.FailedParseCannotBeDecoded
  intro s t hexec herr
  obtain rfl : parse s = t := Host.Outcome.next.inj hexec
  have hregn := (parse_ok_or_regn_zero s).resolve_left herr
  refine ⟨hregn, fun hnfd => ⟨_, rfl, ?_⟩⟩
  rw [decodeBlock_of_regn_zero _ hregn hnfd]
  exact ⟨rfl, setOutv_outv _ false, rfl⟩

/-- Settles O39, by the first two outcomes of `parse_cases`. -/
theorem parseOfNoReplyClearsTheResults : Obligations.ParseOfNoReplyClearsTheResults := by
  unfold Obligations.ParseOfNoReplyClearsTheResults
  refine fun s => ⟨fun hbeyond => ?_, fun ⟨hshort, htx⟩ => ?_⟩
  · obtain ⟨-, h⟩ | ⟨hrx, htx, -⟩ | ⟨-, hrx, htx, -⟩ := parse_cases s
    · exact congrArg Host.Outcome.next h
    · omega
    · omega
  · obtain ⟨hbeyond, -⟩ | ⟨-, -, h⟩ | ⟨hmin, -⟩ := parse_cases s
    · omega
    · exact congrArg Host.Outcome.next h
    · omega

end Sys2Proof.Machine

/-! ### The register decoder and scaling engine (43_scaling.md R180 to R202) -/

namespace Sys2Proof.Machine

section
variable (s : State)

/-! The scalar cache (R183, R197, R198). -/

theorem scalld_operand (idx : Nat) (hregn : 126 < s.regn.toNat) : scalld idx s = raise .operand s :=
  if_pos hregn

theorem scalld_decode (idx : Nat) (hregn : s.regn.toNat ≤ 126) (hidx : s.regn.toNat ≤ idx) :
    scalld idx s = raise .decode s := by
  rw [scalld, if_neg (Nat.not_lt.mpr hregn), if_pos hidx]

theorem scalld_ok (idx : Nat) (hregn : s.regn.toNat ≤ 126) (hidx : idx < s.regn.toNat) :
    scalld idx s = finish (setScalv true { s with scalar := regAt s idx }) := by
  rw [scalld, if_neg (Nat.not_lt.mpr hregn), if_neg (Nat.not_le.mpr hidx)]

/-! Phase 3 on `ACC` (R192). -/

theorem p3fix_notReady (haccv : s.accv = false) : p3fix s = raise .notReady s :=
  if_pos haccv

theorem p3fix_ready (haccv : s.accv = true) :
    p3fix s = if 100000 * 10 ^ s.acc.e.toNat < s.acc.m.toNat then finish { s with acc := ⟨s.acc.m, s.acc.e + 1⟩ }
      else finish s := by
  rw [p3fix, if_neg (ne_false_of_eq_true haccv)]
  simp only [p3Exceeds, exceeds, decide_eq_true_eq]

end

/-- Settles O46: the three endings of `SCALLD`; the other two operations do not branch. -/
theorem scalarCacheOperations : Obligations.ScalarCacheOperations := by
  refine ⟨fun v => ?_, fun idx => ?_, rfl, fun _ _ => rfl, fun _ => rfl,
    fun s idx => ⟨fun hregn => ?_, fun ⟨hregn, hidx⟩ => ?_, fun ⟨hregn, hidx⟩ => ?_⟩⟩
  · rw [encode, commandWord_eq_or, BitVec.setWidth_setWidth (by omega)]
    rfl
  · rw [encode, commandWord_eq_or, BitVec.setWidth_setWidth (by omega)]
    rfl
  · exact congrArg Host.Outcome.next (scalld_operand s idx.toNat hregn)
  · exact congrArg Host.Outcome.next (scalld_decode s idx.toNat hregn hidx)
  · exact congrArg Host.Outcome.next (scalld_ok s idx.toNat hregn hidx)

/-- Settles O51: `ACC` valid, the one comparison decides between `p3fix_ready`'s two endings. -/
theorem p3fixDividesOnceAboveTheThreshold : Obligations.P3fixDividesOnceAboveTheThreshold := by
  refine ⟨rfl, fun s => ⟨fun haccv => ?_, fun ⟨haccv, hover⟩ => ?_, fun ⟨haccv, hwithin⟩ => ?_⟩⟩
  · exact congrArg Host.Outcome.next (p3fix_notReady s haccv)
  · exact congrArg Host.Outcome.next ((p3fix_ready s haccv).trans (if_pos hover))
  · exact congrArg Host.Outcome.next ((p3fix_ready s haccv).trans (if_neg (Nat.not_lt.mpr hwithin)))

section
variable {s : State} {last : Nat} (raw : Nat) {c : MClass}

/-! `SCALE16` and `SCALE32` by their checks, of which `last` is the highest register read (R189, R190). -/

/-- `CLASS` and `OFF` of format F, each or-ed to the word (30_encoding.md R82). -/
theorem setWidth_argF (off : BitVec 7) (c : MClass) :
    (argF off c).setWidth 32 = BitVec.ofNat 32 (c.num * 256) ||| off.setWidth 32 := by
  cases c <;> revert off <;> decide +kernel

theorem commandWord_argF (o : BitVec 8) (off : BitVec 7) (c : MClass) :
    Image.command (commandWord o (argF off c)) =
      .command (commandWord o 0 ||| BitVec.ofNat 32 (c.num * 256) ||| off.setWidth 32) := by
  rw [commandWord_eq_or, setWidth_argF, ← BitVec.or_assoc]

theorem scaleTo_operand (hregn : 126 < s.regn.toNat) :
    scaleTo (scaleCheck last c s) raw c s = raise .operand (setAccv false s) := by
  rw [scaleCheck, if_pos hregn]
  rfl

theorem scaleTo_notReady (hregn : s.regn.toNat ≤ 126) (hset : c ≠ .raw ∧ s.msetv = false) :
    scaleTo (scaleCheck last c s) raw c s = raise .notReady (setAccv false s) := by
  rw [scaleCheck, if_neg (Nat.not_lt.mpr hregn), if_pos hset]
  rfl

theorem scaleTo_decode (hregn : s.regn.toNat ≤ 126) (hset : ¬(c ≠ .raw ∧ s.msetv = false))
    (hlast : s.regn.toNat ≤ last) : scaleTo (scaleCheck last c s) raw c s = raise .decode (setAccv false s) := by
  rw [scaleCheck, if_neg (Nat.not_lt.mpr hregn), if_neg hset, if_pos hlast]
  rfl

theorem scaleTo_ok (hregn : s.regn.toNat ≤ 126) (hset : ¬(c ≠ .raw ∧ s.msetv = false)) (hlast : last < s.regn.toNat) :
    scaleTo (scaleCheck last c s) raw c s = finish (setAccv true { s with acc := scale raw (mult s c) }) := by
  rw [scaleCheck, if_neg (Nat.not_lt.mpr hregn), if_neg hset, if_neg (Nat.not_le.mpr hlast)]
  rfl

/-- Every outcome of an instruction that scales a 32-bit value: the errors in their order, or the exact product, which
does not overflow (`scale_exact`). -/
theorem scale_outcomes {i : Instr} (hexec : exec i s = .next (scaleTo (scaleCheck last c s) raw c s))
    (hraw : raw < 2 ^ 32) :
    let mu : Mult := if c = .raw then ⟨1, 0⟩ else msetAt s c.num
    (126 < s.regn.toNat → exec i s =
      .next { s with status := setBit s.status 3 false, err := 0x03, faults := setBit s.faults 1 true }) ∧
    (s.regn.toNat ≤ 126 ∧ c ≠ .raw ∧ s.msetv = false → exec i s =
      .next { s with status := setBit s.status 3 false, err := 0x32, faults := setBit s.faults 7 true }) ∧
    (s.regn.toNat ≤ 126 ∧ (c = .raw ∨ s.msetv = true) ∧ s.regn.toNat ≤ last → exec i s =
      .next { s with status := setBit s.status 3 false, err := 0x30, faults := setBit s.faults 5 true }) ∧
    (s.regn.toNat ≤ 126 ∧ (c = .raw ∨ s.msetv = true) ∧ last < s.regn.toNat →
      ∃ t, exec i s = .next t ∧ t.acc.m.toNat = raw * mu.m.toNat ∧ t.acc.e.toNat = mu.e.toNat ∧
        { t with acc := s.acc } = { s with status := setBit s.status 3 true, err := 0x00 }) := by
  have hready : c = .raw ∨ s.msetv = true ↔ ¬(c ≠ .raw ∧ s.msetv = false) := by simp [or_iff_not_imp_left]
  obtain ⟨hm, he⟩ := scale_exact raw (mult s c) hraw
  rw [mult_eq] at hm he
  rw [hexec, hready]
  refine ⟨fun hregn => ?_, fun ⟨hregn, hset⟩ => ?_, fun ⟨hregn, hset, hlast⟩ => ?_, fun ⟨hregn, hset, hlast⟩ => ?_⟩
  · exact congrArg Host.Outcome.next (scaleTo_operand raw hregn)
  · exact congrArg Host.Outcome.next (scaleTo_notReady raw hregn hset)
  · exact congrArg Host.Outcome.next (scaleTo_decode raw hregn hset hlast)
  · rw [scaleTo_ok raw hregn hset hlast, mult_eq]
    exact ⟨_, rfl, hm, he, rfl⟩

end

/-- Settles O49: a register scaled has 16 bits. -/
theorem scale16IsExact : Obligations.Scale16IsExact := by
  refine fun s off c => ⟨commandWord_argF 0x44 off c, scale_outcomes _ rfl ?_⟩
  exact (regAt s off.toNat).isLt.trans (by norm_num)

/-- Settles O50: the value scaled is the 32-bit combination of two registers (`reg32_toNat`). -/
theorem scale32IsExact : Obligations.Scale32IsExact := by
  refine fun s off c => ⟨commandWord_argF 0x45 off c, ?_⟩
  intro mu first second raw
  have hraw : (reg32 s off.toNat).toNat = raw := reg32_toNat s off.toNat
  rw [← hraw]
  exact scale_outcomes _ rfl (reg32 s off.toNat).isLt

section
variable {s : State}

/-! The set `RESOLVE` selects, by the override and the scalar used (`resolve_set`, R185, R188). -/

theorem resolve_of_manual (hmanual : s.manual = true) :
    (resolve s).mset = s.man ∧ (resolve s).msrc = 3#3 ∧ (resolve s).midx = 0#3 := by
  obtain ⟨-, hset⟩ | ⟨hoff, -⟩ | ⟨hoff, -⟩ := resolve_set s
  · exact hset
  · exact absurd hmanual (ne_true_of_eq_false hoff)
  · exact absurd hmanual (ne_true_of_eq_false hoff)

theorem resolve_of_fifteen (hmanual : s.manual = false) (hscalar : (resolve s).scalused.toNat = 15) :
    (resolve s).mset = s.params.m15 ∧ (resolve s).msrc = 2#3 ∧ (resolve s).midx = 0#3 := by
  obtain ⟨hon, -⟩ | ⟨-, -, hset⟩ | ⟨-, hother, -⟩ := resolve_set s
  · exact absurd hon (ne_true_of_eq_false hmanual)
  · exact hset
  · exact absurd hscalar hother

theorem resolve_of_standard (hmanual : s.manual = false) (hscalar : (resolve s).scalused.toNat ≠ 15) :
    (resolve s).mset = standardSet s.params (clampScalar (resolve s).scalused.toNat) ∧ (resolve s).msrc = 1#3 ∧
      (resolve s).midx = BitVec.ofNat 3 (clampScalar (resolve s).scalused.toNat) := by
  obtain ⟨hon, -⟩ | ⟨-, hfifteen, -⟩ | ⟨-, -, hset⟩ := resolve_set s
  · exact absurd hon (ne_true_of_eq_false hmanual)
  · exact absurd hfifteen hscalar
  · exact hset

/-- A set of `MTAB` is a row of it with the fixed frequency multiplier (R184). -/
theorem standardSet_row (p : Params) {k : Nat} (hk : k < 7) :
    ∃ row, p.mtab[k]? = some row ∧ standardSet p k = #v[row.power, row.current, row.voltage, row.pf, ⟨5, 3⟩] :=
  ⟨p.mtab[k], Vector.getElem?_eq_getElem hk, standardSet_at p k hk⟩

theorem resolve_scaldef (s : State) : (resolve s).scaldef = !s.scalv := by
  rw [State.scaldef, resolve_status, resolveScalar_status, getLsbD_setBit_ne _ (by omega),
    getLsbD_setBit_self _ (by omega)]

end

/-- Settles O47: the scalar and its warning by `resolve_scalused` and `resolve_faults`, the set by the three selections
of `resolve_set`, the rest by `resolve_frame`. -/
theorem resolveSelectsTheSet : Obligations.ResolveSelectsTheSet := by
  unfold Obligations.ResolveSelectsTheSet
  refine fun s => ⟨finish (resolve s), rfl, resolve_scalused s, resolve_scaldef s, resolve_msetv s, resolve_faults s,
    resolve_of_manual, fun ⟨hmanual, hscalar⟩ => resolve_of_fifteen hmanual hscalar,
    fun k hk hmanual hscalar hclamp => ?_, ?_, fun j h2 h5 => ?_⟩
  · obtain ⟨hmset, hmsrc, hmidx⟩ := resolve_of_standard hmanual hscalar
    obtain rfl : k = clampScalar (resolve s).scalused.toNat := hclamp
    obtain ⟨row, hrow, hset⟩ := standardSet_row s.params hk
    refine ⟨hmsrc, ?_, row, hrow, ?_⟩
    · rw [finish_midx, hmidx, BitVec.toNat_ofNat]
      omega
    · simp only [msetAt, finish_mset, hmset, hset]
      exact ⟨rfl, rfl, rfl, rfl, rfl⟩
  · rw [resolve_frame]
    rfl
  · exact resolve_status_of_notMem (bits := [2, 5]) s (by decide) (by decide) (by simp [h2, h5])

/-- A cached scalar from 6 on other than 15 resolves to the last row of `MTAB` (R185). -/
theorem resolve_of_large {s : State} (hmanual : s.manual = false) (hcached : s.scalv = true) (hge : 6 ≤ s.scalar.toNat)
    (hne : s.scalar.toNat ≠ 15) :
    (resolve s).mset = standardSet s.params 6 ∧ (resolve s).msrc = 1#3 ∧ (resolve s).midx = 6#3 := by
  have hused : (resolve s).scalused = s.scalar := (resolve_scalused s).trans (if_pos hcached)
  have hclamp : clampScalar s.scalar.toNat = 6 := by
    unfold clampScalar
    split <;> omega
  have hset := resolve_of_standard hmanual (hused.symm ▸ hne)
  rwa [hused, hclamp] at hset

/-- Settles O48: both scalars select row 6 (`resolve_of_large`). -/
theorem largeScalarsClampToSix : Obligations.LargeScalarsClampToSix := by
  unfold Obligations.LargeScalarsClampToSix
  intro s t u v hge hne hmanual hcached ht hu
  obtain rfl : finish (resolve { s with scalar := v }) = t := Host.Outcome.next.inj ht
  obtain rfl : finish (resolve { s with scalar := 6 }) = u := Host.Outcome.next.inj hu
  obtain ⟨hmset, hmsrc, hmidx⟩ := resolve_of_large (s := { s with scalar := v }) hmanual hcached hge hne
  obtain ⟨hmset6, -, -⟩ :=
    resolve_of_large (s := { s with scalar := 6 }) hmanual hcached (Nat.le_refl 6) (by decide : (6 : Nat) ≠ 15)
  obtain ⟨row, -, hrow⟩ := standardSet_row s.params (by omega : 6 < 7)
  refine ⟨hmset.trans hmset6.symm, hmsrc, hmidx, ?_⟩
  rw [msetAt, finish_mset, hmset, hrow]
  rfl

section
variable {s : State}

/-! What `DECODE` checks (R194, R195 steps 1 to 3). -/

theorem all_fdValid_iff (hnfd : s.nfd.toNat ≤ 64) (n : Nat) :
    (firstN s.fd s.nfd.toNat).all (fdValid n) = true ↔ ∀ k, k < s.nfd.toNat → fdValid n (fdAt s k) = true :=
  List.all_eq_true.trans (forall_mem_firstN 0 s.fd s.nfd.toNat hnfd fun d => fdValid n d = true)

theorem decodeCheck_operand (hsize : 126 < s.regn.toNat ∨ 64 < s.nfd.toNat) : decodeCheck s = some .operand :=
  if_pos hsize

theorem decodeCheck_decode (hregn : s.regn.toNat ≤ 126) (hnfd : s.nfd.toNat ≤ 64) (hneed : s.regn.toNat < need s) :
    decodeCheck s = some .decode := by
  rw [decodeCheck, if_neg (by omega), if_pos hneed]

/-- Past the first two checks `DECODE` passes exactly with every descriptor valid. -/
theorem decodeCheck_descriptors (hregn : s.regn.toNat ≤ 126) (hnfd : s.nfd.toNat ≤ 64) (hneed : need s ≤ s.regn.toNat) :
    ((∀ k, k < s.nfd.toNat → fdValid (need s) (fdAt s k) = true) → decodeCheck s = none) ∧
    ((∃ k, k < s.nfd.toNat ∧ fdValid (need s) (fdAt s k) = false) → decodeCheck s = some .descriptor) := by
  rw [decodeCheck, if_neg (by omega), if_neg (by omega)]
  refine ⟨fun hvalid => if_pos ((all_fdValid_iff hnfd _).mpr hvalid), fun ⟨k, hk, hinvalid⟩ => if_neg fun hall => ?_⟩
  exact ne_true_of_eq_false hinvalid ((all_fdValid_iff hnfd _).mp hall k hk)

theorem fdValid_eq_false_iff (n : Nat) (d : Word) :
    fdValid n d = false ↔
      fdReserved d ≠ 0 ∨ 5 < fdClass d ∨ 4 < fdRole d ∨ n ≤ fdOff d + (if fdW32 d then 1 else 0) := by
  rw [← Bool.not_eq_true, fdValid_iff]
  omega

end

/-- Settles O52: each failing check of `decodeCheck` in its order. -/
theorem failingDecodeOnlyClearsOutv : Obligations.FailingDecodeOnlyClearsOutv := by
  unfold Obligations.FailingDecodeOnlyClearsOutv
  intro s n invalid
  refine ⟨fun hsize => ?_, fun ⟨hregn, hnfd, hneed⟩ => ?_, fun ⟨hregn, hnfd, hneed, k, hk, hinvalid⟩ => ?_⟩
  · exact congrArg Host.Outcome.next (decodeBlock_error s _ (decodeCheck_operand hsize))
  · exact congrArg Host.Outcome.next (decodeBlock_error s _ (decodeCheck_decode hregn hnfd hneed))
  · have hfd : fdValid (need s) (fdAt s k) = false := (fdValid_eq_false_iff n _).mpr hinvalid
    obtain ⟨-, hdescriptor⟩ := decodeCheck_descriptors hregn hnfd hneed
    exact congrArg Host.Outcome.next (decodeBlock_error s _ (hdescriptor ⟨k, hk, hfd⟩))

section
variable (s : State)

/-! What `DECODE` reads of the resolved state is as before, but for the set. -/

@[simp] theorem resolve_nfd : (resolve s).nfd = s.nfd := by rw [resolve_frame]

theorem outAt_resolve (k : Nat) : outAt (resolve s) k = outAt s k := by
  rw [resolve_frame]
  rfl

theorem fdAt_resolve (k : Nat) : fdAt (resolve s) k = fdAt s k := by
  rw [resolve_frame]
  rfl

theorem fdRaw_resolve (d : Word) : fdRaw (resolve s) d = fdRaw s d := by
  rw [resolve_frame]
  rfl

/-- The register value of a field as a number (R191, R195 step 5). -/
theorem fdRaw_eq (d : Word) :
    fdRaw s d =
      if fdW32 d then
        (if s.mswfirst then (regAt s (fdOff d)).toNat * 65536 + (regAt s (fdOff d + 1)).toNat
          else (regAt s (fdOff d + 1)).toNat * 65536 + (regAt s (fdOff d)).toNat)
      else (regAt s (fdOff d)).toNat := by
  rw [fdRaw, reg32_toNat]

/-- `DECODE` leaves the entries from `NFD` on. -/
theorem outAt_decodeOut_beyond {k : Nat} (hk : s.nfd.toNat ≤ k) : outAt (decodeOut s) k = outAt s k := by
  have hlen : ((firstN s.fd s.nfd.toNat).map (decodeField s)).length ≤ s.nfd.toNat := by
    rw [List.length_map, length_firstN]
    exact Nat.min_le_left _ _
  exact (elem_putAll _ _ _ _ _).trans (if_neg (by omega))

end

/-- Settles O53: `DECODE` writes the fields of the resolved state (`outAt_decodeOut`), each exact
(`decodeField_cases`). -/
theorem decodeAssemblesEveryField : Obligations.DecodeAssemblesEveryField := by
  unfold Obligations.DecodeAssemblesEveryField
  intro s n hregn hnfd hneed hfd
  obtain ⟨hpass, -⟩ := decodeCheck_descriptors hregn hnfd hneed
  have hcheck : decodeCheck s = none := hpass fun k hk => (fdValid_iff n _).mpr (hfd k hk)
  refine ⟨finish (resolve s), finish (decodeOut (resolve s)), rfl,
    congrArg Host.Outcome.next (decodeBlock_pass s hcheck), ?_, fun k hk => ?_, fun k hk => ?_⟩
  · have houtn : BitVec.ofNat 7 s.nfd.toNat = (resolve s).nfd.setWidth 7 := by rw [resolve_nfd, BitVec.ofNat_toNat]
    rw [houtn]
    rfl
  · exact (outAt_decodeOut_beyond (resolve s) (by rwa [resolve_nfd])).trans (outAt_resolve s k)
  · have hout : outAt (finish (decodeOut (resolve s))) k = decodeField (resolve s) (fdAt s k) := by
      rw [← fdAt_resolve]
      exact outAt_decodeOut (resolve s) (by rwa [resolve_nfd]) k (by rwa [resolve_nfd])
    have hfield := decodeField_cases (resolve s) (fdAt s k)
    rw [fdRaw_resolve, fdRaw_eq, ← hout] at hfield
    exact hfield

/-! `MDEF` is in the parameters and no operation reads it (R187). -/

/-- The block with another default set. -/
def State.withMdef (m : Vector Mult 5) (s : State) : State := { s with params := { s.params with mdef := m } }

/-- `f` neither reads nor writes `MDEF`. -/
def IgnoresMdef (f : State → State) : Prop := ∀ (m : Vector Mult 5) (s : State), f (s.withMdef m) = (f s).withMdef m

/-- A branch whose condition does not read `MDEF`. -/
theorem IgnoresMdef.ite {c : State → Prop} [DecidablePred c] {f g : State → State} (hf : IgnoresMdef f)
    (hg : IgnoresMdef g) (hc : ∀ m s, c (s.withMdef m) = c s := by intros; rfl) :
    IgnoresMdef fun s => if c s then f s else g s := by
  intro m s
  simp only [hc, hf m s, hg m s, apply_ite (State.withMdef m)]

theorem IgnoresMdef.comp {f g : State → State} (hf : IgnoresMdef f) (hg : IgnoresMdef g) :
    IgnoresMdef fun s => f (g s) :=
  fun m s => (congrArg f (hg m s)).trans (hf m (g s))

theorem crcbuf_ignoresMdef (sel : BufSel) (len : Nat) : IgnoresMdef (crcbuf sel len) :=
  .ite (fun _ _ => rfl) (fun _ _ => rfl)

theorem crcapp_ignoresMdef : IgnoresMdef crcapp :=
  .ite (fun _ _ => rfl) (fun _ _ => rfl)

theorem crcvfy_ignoresMdef (sel : BufSel) : IgnoresMdef (crcvfy sel) :=
  .ite (fun _ _ => rfl) (.ite (fun _ _ => rfl) (fun _ _ => rfl))

theorem addrconv_ignoresMdef : IgnoresMdef addrconv :=
  .ite (fun _ _ => rfl) (fun _ _ => rfl)

theorem build_ignoresMdef : IgnoresMdef build :=
  .ite (fun _ _ => rfl) (fun _ _ => rfl)

theorem explenOp_ignoresMdef : IgnoresMdef explenOp :=
  .ite (fun _ _ => rfl) (fun _ _ => rfl)

theorem parseRead_ignoresMdef : IgnoresMdef parseRead :=
  .ite (fun _ _ => rfl) (.ite (fun _ _ => rfl) (.ite (fun _ _ => rfl) (fun _ _ => rfl)))

theorem parseEcho_ignoresMdef : IgnoresMdef parseEcho :=
  .ite (fun _ _ => rfl) (fun _ _ => rfl)

theorem parseBody_ignoresMdef : IgnoresMdef parseBody :=
  .ite (fun _ _ => rfl) (.ite (fun _ _ => rfl) (.ite parseRead_ignoresMdef (.ite parseEcho_ignoresMdef
    (fun _ _ => rfl))))

theorem parse_ignoresMdef : IgnoresMdef parse :=
  .ite (fun _ _ => rfl) (.ite (fun _ _ => rfl)
    (parseBody_ignoresMdef.comp (g := fun s => parseHeader (parseClear s)) fun _ _ => rfl))

theorem scalld_ignoresMdef (idx : Nat) : IgnoresMdef (scalld idx) :=
  .ite (fun _ _ => rfl) (.ite (fun _ _ => rfl) (fun _ _ => rfl))

theorem resolveScalar_ignoresMdef : IgnoresMdef resolveScalar :=
  .ite (fun _ _ => rfl) (fun _ _ => rfl)

/-- The set is `MAN`, `M15` or a row of `MTAB` (R185, R188). -/
theorem resolveSet_ignoresMdef : IgnoresMdef resolveSet :=
  .ite (fun _ _ => rfl) (.ite (fun _ _ => rfl) (fun _ _ => rfl))

theorem resolve_ignoresMdef : IgnoresMdef resolve :=
  .comp (f := setMsetv true) (fun _ _ => rfl) (resolveSet_ignoresMdef.comp resolveScalar_ignoresMdef)

theorem scaleTo_ignoresMdef (check : Option ErrCode) (raw : Nat) (c : MClass) : IgnoresMdef (scaleTo check raw c) := by
  cases check <;> exact fun _ _ => rfl

theorem p3fix_ignoresMdef : IgnoresMdef p3fix :=
  .ite (fun _ _ => rfl) (.ite (fun _ _ => rfl) (fun _ _ => rfl))

theorem decodeBlock_ignoresMdef : IgnoresMdef decodeBlock := by
  intro m s
  have hcheck : decodeCheck (s.withMdef m) = decodeCheck s := rfl
  cases h : decodeCheck s with
  | some e =>
    rw [decodeBlock_error s e h, decodeBlock_error _ e (hcheck.trans h)]
    rfl
  | none =>
    rw [decodeBlock_pass s h, decodeBlock_pass _ (hcheck.trans h), resolve_ignoresMdef]
    rfl

theorem filterBlock_ignoresMdef : IgnoresMdef filterBlock := by
  intro m s
  have hcheck : filterCheck (s.withMdef m) = filterCheck s := rfl
  cases h : filterCheck s with
  | some e =>
    rw [filterBlock_error s e h, filterBlock_error _ e (hcheck.trans h)]
    rfl
  | none =>
    rw [filterBlock_pass s h, filterBlock_pass _ (hcheck.trans h)]
    rfl

section
variable {s t : State} (m : Vector Mult 5)

theorem loadFrame_withMdef {b : BufSel} {bytes : List Byte} (h : loadFrame b bytes s = .next t) :
    loadFrame b bytes (s.withMdef m) = .next (t.withMdef m) := by
  cases b with
  | tx =>
    obtain ⟨hfits, rfl⟩ := loadFrame_tx_next s bytes t h
    exact if_pos hfits
  | rx =>
    obtain ⟨hfits, rfl⟩ := loadFrame_rx_next s bytes t h
    exact if_pos hfits

/-- No instruction's outcome depends on `MDEF`. -/
theorem exec_withMdef {i : Instr} (h : exec i s = .next t) : exec i (s.withMdef m) = .next (t.withMdef m) := by
  cases hi : encode i with
  | frame b bytes =>
    rw [exec_of_frame _ i b bytes hi] at h ⊢
    exact loadFrame_withMdef m h
  | command w =>
    cases i
    case nop | srst | crcinit | crcbyte | scalset | scalclr => cases h; rfl
    case crcbuf sel len => cases h; exact congrArg _ (crcbuf_ignoresMdef sel len.toNat m s)
    case crcapp => cases h; exact congrArg _ (crcapp_ignoresMdef m s)
    case crcvfy sel => cases h; exact congrArg _ (crcvfy_ignoresMdef sel m s)
    case addrconv => cases h; exact congrArg _ (addrconv_ignoresMdef m s)
    case build => cases h; exact congrArg _ (build_ignoresMdef m s)
    case explen => cases h; exact congrArg _ (explenOp_ignoresMdef m s)
    case parse => cases h; exact congrArg _ (parse_ignoresMdef m s)
    case scalld idx => cases h; exact congrArg _ (scalld_ignoresMdef idx.toNat m s)
    case resolve => cases h; exact congrArg _ (congrArg finish (resolve_ignoresMdef m s))
    case scale16 off cls | scale32 off cls => cases h; exact congrArg _ (scaleTo_ignoresMdef _ _ cls m s)
    case p3fix => cases h; exact congrArg _ (p3fix_ignoresMdef m s)
    case decode => cases h; exact congrArg _ (decodeBlock_ignoresMdef m s)
    case filter => cases h; exact congrArg _ (filterBlock_ignoresMdef m s)
    all_goals cases hi

theorem decodeBlock_msrc (s : State) : (decodeBlock s).msrc = s.msrc ∨ (decodeBlock s).msrc.toNat ≤ 3 := by
  cases h : decodeCheck s with
  | some e =>
    rw [decodeBlock_error s e h]
    exact .inl rfl
  | none =>
    rw [decodeBlock_pass s h]
    exact .inr (resolve_msrc s).2

/-- `MSRC` keeps its value or takes one of the four sources (R42). -/
theorem exec_msrc {i : Instr} (h : exec i s = .next t) : t.msrc = s.msrc ∨ t.msrc.toNat ≤ 3 := by
  cases hW : mayWrite i .msrc with
  | false =>
    have hword := (exec_changesOnly h).words .msrc (by decide) (by decide) (by decide) hW
    have hmsrc := congrArg (BitVec.setWidth 3) hword
    exact .inl (by simpa [readLoc] using hmsrc)
  | true =>
    cases i
    case srst => cases h; exact .inr (Nat.zero_le 3)
    case resolve => cases h; exact .inr (resolve_msrc s).2
    case decode => cases h; exact decodeBlock_msrc s
    all_goals cases hW

end

/-- Settles O24: `exec_withMdef`, and 4 is none of the sources `exec_msrc` leaves. -/
theorem defaultSetIsNeverSelected : Obligations.DefaultSetIsNeverSelected := by
  unfold Obligations.DefaultSetIsNeverSelected
  intro i s t m h
  refine ⟨exec_withMdef m h, fun hfour => ?_⟩
  obtain hsame | hle := exec_msrc h
  · exact hsame.symm.trans hfour
  · rw [hfour] at hle
    exact absurd hle (by decide)

end Sys2Proof.Machine

/-! ### The plausibility filter (44_plausibility_filter.md R220 to R228) -/

namespace Sys2Proof.Machine

section
variable {s : State}

/-! What `FILTER` checks (R220 steps 1 to 3). -/

theorem filterCheck_operand (hregn : 126 < s.regn.toNat) : filterCheck s = some .operand :=
  if_pos hregn

theorem filterCheck_notReady (hregn : s.regn.toNat ≤ 126) (houtv : s.outv = false) : filterCheck s = some .notReady := by
  rw [filterCheck, if_neg (Nat.not_lt.mpr hregn), if_pos houtv]

/-- Past the first two checks `FILTER` passes exactly when every frequency entry has its register in the block. -/
theorem filterCheck_none_iff (houtn : s.outn.toNat ≤ 64) (hregn : s.regn.toNat ≤ 126) (houtv : s.outv = true) :
    filterCheck s = none ↔
      ∀ k, k < s.outn.toNat → fdRole (fdAt s k) = 4 → fdOff (fdAt s k) < s.regn.toNat := by
  rw [filterCheck, if_neg (Nat.not_lt.mpr hregn), if_neg (ne_false_of_eq_true houtv), ite_eq_right_iff]
  simp only [reduceCtorEq, imp_false, List.any_eq_true, decide_eq_true_eq, not_exists, not_and, Nat.not_le]
  exact forall_mem_firstN 0 s.fd s.outn.toNat houtn fun d => fdRole d = 4 → fdOff d < s.regn.toNat

theorem filterCheck_decode (hregn : s.regn.toNat ≤ 126) (houtv : s.outv = true) (hfails : filterCheck s ≠ none) :
    filterCheck s = some .decode := by
  rw [filterCheck, if_neg (Nat.not_lt.mpr hregn), if_neg (ne_false_of_eq_true houtv)] at hfails ⊢
  split at hfails
  next hoff => exact if_pos hoff
  next => exact absurd rfl hfails

end

section
variable {d : Word} (f : OutField)

/-! What each stage makes of an entry with its role, and that it leaves the entries of other roles (R221 to R224). -/

theorem powerStage_system (hrole : fdRole d = 1) :
    powerStage d f = if 10000 * 10 ^ f.e.toNat < f.m.toNat then ⟨f.m, f.e + 1, setBit f.fl 1 true⟩ else f := by
  simp only [powerStage, hrole, exceeds, decide_eq_true_eq, true_and, OfNat.one_ne_ofNat, false_and, if_false, divided]

theorem powerStage_phase (hrole : fdRole d = 2) :
    powerStage d f = if 5000 * 10 ^ f.e.toNat < f.m.toNat then ⟨f.m, f.e + 1, setBit f.fl 1 true⟩ else f := by
  simp only [powerStage, hrole, exceeds, decide_eq_true_eq, true_and, OfNat.ofNat_ne_one, false_and, if_false, divided]

theorem powerStage_other (hsystem : fdRole d ≠ 1) (hphase : fdRole d ≠ 2) : powerStage d f = f := by
  rw [powerStage, if_neg fun h => hsystem h.1, if_neg fun h => hphase h.1]

theorem energyStage_energy (hrole : fdRole d = 3) :
    energyStage d f = if 1000000000 * 10 ^ f.e.toNat < f.m.toNat then ⟨f.m, f.e + 2, setBit f.fl 2 true⟩ else f := by
  simp only [energyStage, hrole, exceeds, decide_eq_true_eq, true_and, divided]

theorem energyStage_other (hrole : fdRole d ≠ 3) : energyStage d f = f :=
  if_neg fun h => hrole h.1

theorem frequencyStage_other (s : State) (hrole : fdRole d ≠ 4) : frequencyStage s d f = f :=
  if_neg fun h => hrole h.1

theorem frequencyStage_plausible (s : State)
    (hplausible : ¬(f.m.toNat < 45 * 10 ^ f.e.toNat ∨ 65 * 10 ^ f.e.toNat < f.m.toNat)) : frequencyStage s d f = f := by
  refine if_neg fun ⟨_, houtside⟩ => hplausible ?_
  simpa only [below, exceeds, decide_eq_true_eq] using houtside

/-- A frequency outside 45 to 65 takes the value of its raw register's band, or is passed through (R224). -/
theorem frequencyStage_implausible (s : State) (hrole : fdRole d = 4)
    (houtside : f.m.toNat < 45 * 10 ^ f.e.toNat ∨ 65 * 10 ^ f.e.toNat < f.m.toNat) :
    let raw := (regAt s (fdOff d)).toNat
    frequencyStage s d f =
      if 550 < raw ∧ raw < 650 then ⟨BitVec.ofNat 64 raw, 1, setBit f.fl 3 true⟩
      else if 5500 < raw ∧ raw < 6500 then ⟨BitVec.ofNat 64 raw, 2, setBit f.fl 3 true⟩
      else if 10000 < raw then ⟨BitVec.ofNat 64 (raw * 5), 3, setBit f.fl 3 true⟩
      else f := by
  intro raw
  have hcorrects : fdRole d = 4 ∧ (below f.m f.e 45 ∨ exceeds f.m f.e 65) :=
    ⟨hrole, by simpa only [below, exceeds, decide_eq_true_eq] using houtside⟩
  rw [frequencyStage, if_pos hcorrects, frequencyBand]
  split_ifs <;> rfl

end

section
variable {s : State} {k : Nat}

/-! The three stages on an entry: only the stage of its role acts (R225). -/

theorem outAt_filterStages_power (houtn : s.outn.toNat ≤ 64) (hk : k < s.outn.toNat)
    (henergy : fdRole (fdAt s k) ≠ 3) (hfrequency : fdRole (fdAt s k) ≠ 4) :
    outAt (filterStages s) k = powerStage (fdAt s k) (outAt s k) := by
  rw [outAt_filterStages s houtn, if_pos hk, energyStage_other _ henergy, frequencyStage_other _ s hfrequency]

theorem outAt_filterStages_energy (houtn : s.outn.toNat ≤ 64) (hk : k < s.outn.toNat)
    (hrole : fdRole (fdAt s k) = 3) : outAt (filterStages s) k = energyStage (fdAt s k) (outAt s k) := by
  rw [outAt_filterStages s houtn, if_pos hk, powerStage_other _ (by omega) (by omega),
    frequencyStage_other _ s (by omega)]

theorem outAt_filterStages_frequency (houtn : s.outn.toNat ≤ 64) (hk : k < s.outn.toNat)
    (hrole : fdRole (fdAt s k) = 4) : outAt (filterStages s) k = frequencyStage s (fdAt s k) (outAt s k) := by
  rw [outAt_filterStages s houtn, if_pos hk, powerStage_other _ (by omega) (by omega), energyStage_other _ (by omega)]

end

/-- Settles O54: each failing check of `filterCheck` in its order. -/
theorem failingFilterChangesNoField : Obligations.FailingFilterChangesNoField := by
  unfold Obligations.FailingFilterChangesNoField
  intro s houtn
  refine ⟨fun hregn => ?_, fun ⟨hregn, houtv⟩ => ?_, fun ⟨hregn, houtv, k, hk, hrole, hoff⟩ => ?_⟩
  · exact congrArg Host.Outcome.next (filterBlock_error s _ (filterCheck_operand hregn))
  · exact congrArg Host.Outcome.next (filterBlock_error s _ (filterCheck_notReady hregn houtv))
  · have hfails : filterCheck s ≠ none := fun hpass =>
      Nat.not_lt.mpr hoff ((filterCheck_none_iff houtn hregn houtv).mp hpass k hk hrole)
    exact congrArg Host.Outcome.next (filterBlock_error s _ (filterCheck_decode hregn houtv hfails))

/-- Settles O55: the checks passed, an entry is what the one stage of its role makes of it. -/
theorem filterCorrectsEachFieldByRole : Obligations.FilterCorrectsEachFieldByRole := by
  unfold Obligations.FilterCorrectsEachFieldByRole
  intro s houtn hregn houtv hinside
  have hcheck : filterCheck s = none := (filterCheck_none_iff houtn hregn houtv).mpr hinside
  refine ⟨finish (filterStages s), congrArg Host.Outcome.next (filterBlock_pass s hcheck), ?_, fun k hk => ?_,
    fun k hk => ?_⟩
  · obtain ⟨o, ho⟩ := filterStages_writes s
    rw [ho]
    rfl
  · exact (outAt_filterStages s houtn k).trans (if_neg (Nat.not_lt.mpr hk))
  · intro role f unit raw
    have hrole : fdRole (fdAt s k) = role := rfl
    refine ⟨fun hsystem => ?_, fun hphase => ?_, fun henergy => ?_, fun hfrequency => ?_, fun hnone => ?_⟩
    · exact (outAt_filterStages_power houtn hk (by omega) (by omega)).trans (powerStage_system f hsystem)
    · exact (outAt_filterStages_power houtn hk (by omega) (by omega)).trans (powerStage_phase f hphase)
    · exact (outAt_filterStages_energy houtn hk henergy).trans (energyStage_energy f henergy)
    · refine (outAt_filterStages_frequency houtn hk hfrequency).trans ?_
      split
      next hplausible => exact frequencyStage_plausible f s hplausible
      next houtside => exact frequencyStage_implausible f s hfrequency (not_not.mp houtside)
    · exact (outAt_filterStages_power houtn hk (by omega) (by omega)).trans
        (powerStage_other f (by omega) (by omega))

end Sys2Proof.Machine

/-! ### System operations (45_system.md R235, R236) -/

namespace Sys2Proof.Machine

/-- The frame of R236: only `CMD`, the arrays and what is not the block's are of the state before. -/
theorem softReset_eq (s : State) :
    softReset s = { State.reset with
      cmd := s.cmd, val := s.val, txbuf := s.txbuf, rxbuf := s.rxbuf, reg := s.reg, fd := s.fd, out := s.out
      prog := s.prog, pc := s.pc, rdata := s.rdata, params := s.params } := rfl

/-- Settles O17: the instruction finishes `softReset`, whose `ERR` is already 0x00. -/
theorem softResetIsResetButForCmdAndArrays : Obligations.SoftResetIsResetButForCmdAndArrays :=
  ⟨rfl, fun s => congrArg (fun t => Host.Outcome.next (finish t)) (softReset_eq s)⟩

/-- Settles O25: the instruction is `finish` alone, which writes `ERR` only (`finish_eq`). -/
theorem nopOnlyClearsErr : Obligations.NopOnlyClearsErr :=
  ⟨rfl, fun s => congrArg Host.Outcome.next (finish_eq s)⟩

end Sys2Proof.Machine

/-! ### Illegal command words (60_exceptions.md R251) -/

namespace Sys2Proof

open Sys2Proof.Machine

section
variable {w : Word} {i : Instr} {hf : Bool}

/-- What a block reads, a block with the filter reads alike; opcode 0x50 is read only with the filter (R99). -/
theorem decodeCommand_true_of_ok (h : decodeCommand hf w = .ok i) :
    decodeCommand true w = .ok i ∧ ((w.extractLsb' 24 8).toNat = 0x50 → hf = true) := by
  cases hf with
  | true => exact ⟨h, fun _ => rfl⟩
  | false =>
    unfold decodeCommand at h ⊢
    split at h
    -- `FILTER` and no opcode are rejected; every other arm is the same in both blocks
    case h_20 | h_21 => cases h
    all_goals
      rename_i ho
      rw [ho]
      exact ⟨h, by decide⟩

/-- A word the block reads is selected by a row with legal fields, `FILTER`'s only in a block with the filter. -/
theorem exists_legal_row_of_decodeCommand (h : decodeCommand hf w = .ok i) :
    ∃ r, r ∈ opcodeRows ∧ w &&& r.mask = r.pattern ∧ fieldsLegal r w = true ∧
      (r.pattern = 0x50000000#32 → hf = true) := by
  obtain ⟨htrue, hfilter⟩ := decodeCommand_true_of_ok h
  obtain ⟨r, hr, hsel, hlegal⟩ := (decoderAgreesWithTheOpcodeTable.1 w).mp ⟨i, htrue⟩
  refine ⟨r, hr, hsel, hlegal, fun hpattern => hfilter ?_⟩
  obtain ⟨ho, -⟩ := (row_selects_iff hr).mp hsel
  rw [ho, Row.opcode, hpattern]
  decide

end

end Sys2Proof

namespace Sys2Proof.Machine

/-- A word the decoder rejects: its whole effect is `raise` (R251, R255). -/
theorem writeCommand_of_error {w : Word} {s : State} {e : Reject} (h : decodeCommand s.params.hasFilter w = .error e) :
    writeCommand w s = .next (raise .illegalCommand { s with cmd := w }) := by
  rw [writeCommand, h]

/-- Settles O5: an accepted word would be selected by a legal row, so the word is rejected, and `raise` writes `ERR` and
bit 0 of `FAULTS` (`raise_eq`). -/
theorem illegalWordRaisesIllegalCommand : Obligations.IllegalWordRaisesIllegalCommand := by
  unfold Obligations.IllegalWordRaisesIllegalCommand
  intro w s hillegal
  cases hdecode : decodeCommand s.params.hasFilter w with
  | ok i => exact absurd (exists_legal_row_of_decodeCommand hdecode) hillegal
  | error e => exact writeCommand_of_error hdecode

end Sys2Proof.Machine

/-! ### Result codes (60_exceptions.md R250, R255, R257) -/

namespace Sys2Proof.Machine

/-- How an operation with the result codes `codes` may end from `s`: `ERR` is one of them; it is 0x00 and the error bits
of `FAULTS` are as they were, or it is an error's code, whose bit alone was set. `Ends` asks for all of `FAULTS` where
no error is raised; here `WARNDEF`, bit 8, may be set (R262). -/
structure Reports (codes : List (BitVec 8)) (s t : State) : Prop where
  err_mem : t.err ∈ codes
  result : (t.err = 0x00#8 ∧ ∀ j, j < 8 → t.faults.getLsbD j = s.faults.getLsbD j) ∨
    ∃ e : ErrCode, t.err = codeOf e ∧ t.faults = setBit s.faults (faultBit e) true

section
variable {s t : State} {codes : List (BitVec 8)} {es : List ErrCode}

theorem Reports.of_ok (hcodes : 0x00#8 ∈ codes) (herr : t.err = 0x00#8)
    (hfaults : ∀ j, j < 8 → t.faults.getLsbD j = s.faults.getLsbD j) : Reports codes s t :=
  ⟨herr ▸ hcodes, .inl ⟨herr, hfaults⟩⟩

theorem Reports.of_error {e : ErrCode} (hcodes : codeOf e ∈ codes) (herr : t.err = codeOf e)
    (hfaults : t.faults = setBit s.faults (faultBit e) true) : Reports codes s t :=
  ⟨herr ▸ hcodes, .inr ⟨e, herr, hfaults⟩⟩

/-- An operation that raises the errors `es` reports 0x00 or the code of one of them. -/
theorem Ends.reports (h : Ends es s t) : Reports (0x00 :: es.map codeOf) s t := by
  obtain ⟨herr, hfaults⟩ | ⟨e, he, herr, hfaults⟩ := h
  · exact .of_ok List.mem_cons_self herr fun j _ => by rw [hfaults]
  · exact .of_error (List.mem_cons_of_mem _ (List.mem_map_of_mem he)) herr hfaults

/-- Resolution writes no bit of `FAULTS` but `WARNDEF` (R262). -/
theorem resolve_faults_of_lt (s : State) {j : Nat} (hj : j < 8) :
    (resolve s).faults.getLsbD j = s.faults.getLsbD j := by
  rw [resolve_faults]
  split
  · rfl
  · exact getLsbD_setBit_ne _ (by omega) true

theorem resolve_reports (s : State) : Reports [0x00] s (finish (resolve s)) :=
  .of_ok List.mem_cons_self rfl fun _ hj => resolve_faults_of_lt s hj

theorem decodeBlock_reports (s : State) :
    Reports (0x00 :: [ErrCode.operand, .decode, .descriptor].map codeOf) s (decodeBlock s) := by
  obtain ⟨e, he, herr, hfaults⟩ | ⟨herr, hfaults⟩ := decodeBlock_ends s
  · exact .of_error (List.mem_cons_of_mem _ (List.mem_map_of_mem he)) herr hfaults
  · exact .of_ok List.mem_cons_self herr fun j hj => by rw [hfaults, resolve_faults_of_lt s hj]

/-- Every operation but `SRST` reports one of the codes listed for it: the list is 0x00 and the codes of the errors its
checks raise. -/
theorem exec_reports {i : Instr} (hcommand : isCommand i = true) (hsrst : i ≠ .srst) (h : exec i s = .next t) :
    Reports (resultCodes i s.err) s t := by
  cases i
  case srst => contradiction
  case nop | crcinit | crcbyte | scalset | scalclr => cases h; exact .of_ok List.mem_cons_self rfl fun _ _ => rfl
  case crcbuf sel len => cases h; exact (crcbuf_ends s sel len.toNat).reports
  case crcapp => cases h; exact (crcapp_ends s).reports
  case crcvfy sel => cases h; exact (crcvfy_ends s sel).reports
  case addrconv => cases h; exact (addrconv_ends s).reports
  case build => cases h; exact (build_ends s).reports
  case explen => cases h; exact (explenOp_ends s).reports
  case parse => cases h; exact (parse_ends s).reports
  case scalld idx => cases h; exact (scalld_ends s idx.toNat).reports
  case resolve => cases h; exact resolve_reports s
  case scale16 off cls | scale32 off cls => cases h; exact (scaleTo_ends s _ _ cls).reports
  case p3fix => cases h; exact (p3fix_ends s).reports
  case decode => cases h; exact decodeBlock_reports s
  case filter => cases h; exact (filterBlock_ends s).reports
  all_goals cases hcommand

/-- A load line leaves `ERR` alone. -/
theorem loadFrame_err {b : BufSel} {bytes : List Byte} (h : loadFrame b bytes s = .next t) : t.err = s.err := by
  cases b with
  | tx =>
    obtain ⟨-, rfl⟩ := loadFrame_tx_next s bytes t h
    rfl
  | rx =>
    obtain ⟨-, rfl⟩ := loadFrame_rx_next s bytes t h
    rfl

theorem resultCodes_of_frame {i : Instr} {b : BufSel} {bytes : List Byte} (h : encode i = .frame b bytes)
    (before : BitVec 8) : resultCodes i before = [before] := by
  cases i
  case reqReadHolding | reqReadInput | reqWriteSingle | reqWriteMultiple => rfl
  case rspReadHolding | rspReadInput | rspWriteSingle | rspWriteMultiple | rspError => rfl
  all_goals cases h

end

/-- Settles O22: it is the result part of `exec_reports`. -/
theorem resultCodeSetsExactlyItsFaultBit : Obligations.ResultCodeSetsExactlyItsFaultBit := by
  unfold Obligations.ResultCodeSetsExactlyItsFaultBit
  intro i s t hcommand hsrst h
  exact (exec_reports hcommand hsrst h).result

/-- Settles O23: a frame row keeps `ERR`, `SRST` ends with 0x00, and every other operation ends as `exec_reports`
says. -/
theorem operationsRaiseOnlyTheirCodes : Obligations.OperationsRaiseOnlyTheirCodes := by
  unfold Obligations.OperationsRaiseOnlyTheirCodes
  intro i s t h
  cases hi : encode i with
  | frame b bytes =>
    rw [exec_of_frame s i b bytes hi] at h
    rw [resultCodes_of_frame hi, loadFrame_err h]
    exact List.mem_cons_self
  | command w =>
    by_cases hsrst : i = .srst
    · subst hsrst
      cases h
      exact List.mem_cons_self
    · have hcommand : isCommand i = true := by rw [isCommand, hi]
      exact (exec_reports hcommand hsrst h).err_mem

end Sys2Proof.Machine

/-! ### Totality of command words (70_reset_and_hazards.md R294) -/

namespace Sys2Proof.Machine

/-- `CMD` stands in no instruction's "Writes" column (10_state.md R48). -/
theorem mayWrite_cmd (i : Instr) : mayWrite i .cmd = false := by
  cases i <;> rfl

/-- An instruction leaves `CMD` and all that is not the block's as they were. -/
theorem exec_keeps_cmd_and_hostSide {i : Instr} {s t : State} (h : exec i s = .next t) :
    t.cmd = s.cmd ∧ t.hostSide = s.hostSide := by
  have hframe := exec_changesOnly h
  exact ⟨hframe.words .cmd (by decide) (by decide) (by decide) (mayWrite_cmd i), hframe.hostSide⟩

/-- The successor a write to `CMD` has holds the word, and nothing of the host's side changed. -/
theorem writeCommand_keeps_word_and_hostSide {w : Word} {s t : State} (h : writeCommand w s = .next t) :
    t.cmd = w ∧ t.hostSide = s.hostSide := by
  cases hdecode : decodeCommand s.params.hasFilter w with
  | ok i =>
    rw [writeCommand, hdecode] at h
    exact exec_keeps_cmd_and_hostSide h
  | error e =>
    rw [writeCommand_of_error hdecode] at h
    cases h
    exact ⟨rfl, rfl⟩

/-- Settles O8: the successor exists for legal and illegal words alike (`writeCommand_next`), and what it keeps is
`writeCommand_keeps_word_and_hostSide`. -/
theorem everyCommandWordHasASuccessor : Obligations.EveryCommandWordHasASuccessor := by
  unfold Obligations.EveryCommandWordHasASuccessor
  intro w s
  obtain ⟨t, ht⟩ := writeCommand_next w s
  obtain ⟨hcmd, hhost⟩ := writeCommand_keeps_word_and_hostSide ht
  simp only [State.hostSide, Prod.mk.injEq] at hhost
  exact ⟨t, ht, hcmd, hhost⟩

end Sys2Proof.Machine
